-- ==== Sys2Proof/Word.lean ====
section
/-! DEFINITION. The widths the spec gives the block's values (R8, R9, R10, R20): 32-bit words, 16-bit halves
and bytes, all unsigned. -/

namespace Sys2Proof

/-- A register or a command word (R8: register width 32 bits). -/
abbrev Word := BitVec 32

/-- A 16-bit value: an Adler sum, a block length (R20). -/
abbrev Half := BitVec 16

/-- A byte (R9). -/
abbrev Byte := BitVec 8

end Sys2Proof
end

