-- ==== Sys2Proof/Syntax.lean ====
section
/-! DEFINITION. The command set (R92, 30_encoding.md): one constructor per row of spec/opcode_table.json. A command
marked IMM8 in R92 carries its byte operand; `ARG` and `RESULT` are implicit operands, named by the opcode (R91). -/

namespace Sys2Proof

/-- The 17 commands of R92. -/
inductive Instr where
  /-- NOP (R200). -/
  | nop
  /-- CLRERR (R201). -/
  | clrerr
  /-- SRESET (R202). -/
  | sreset
  /-- CRC.INIT (R111). -/
  | crcInit
  /-- CRC.BYTE b (R112). -/
  | crcByte (b : Byte)
  /-- CRC.FINAL (R113). -/
  | crcFinal
  /-- CRC.LOOKUP i (R114). -/
  | crcLookup (i : Byte)
  /-- ADL.INIT (R130). -/
  | adlInit
  /-- ADL.BYTE b (R131). -/
  | adlByte (b : Byte)
  /-- ADL.FINAL (R132). -/
  | adlFinal
  /-- BE.ENCA (R151). -/
  | beEnca
  /-- BE.ENCR (R152). -/
  | beEncr
  /-- BE.DEC b (R153). -/
  | beDec (b : Byte)
  /-- BE.DCLR (R154). -/
  | beDclr
  /-- Z.START (R178). -/
  | zStart
  /-- Z.DATA b (R179). -/
  | zData (b : Byte)
  /-- Z.ABORT (R180). -/
  | zAbort
  deriving DecidableEq, Repr

end Sys2Proof
end

