-- ==== Sys2Proof/WellFormed.lean ====
section
/-! DEFINITION. What the spec calls well-formed: a bus access (R61, 20_memory.md) and a written command line (R97,
30_encoding.md). A decoded `Instr` needs no check: its only operand is a byte, and every byte is legal (R91). -/

namespace Sys2Proof

/-- R61: the access is 4 bytes wide. -/
def accessSizeOk (size : Nat) : Bool := size == 4

/-- R61: the offset is a multiple of 4. -/
def accessAligned (off : Nat) : Bool := off % 4 == 0

/-- R61: the offset names a register, not the reserved slots 0x28..0x3C. -/
def accessMapped (off : Nat) : Bool := off ≤ 0x24

/-- R61: an access is well-formed when `size = 4`, `off mod 4 = 0` and `off ≤ 0x24`. -/
def accessWellFormed (off size : Nat) : Bool := accessSizeOk size && accessAligned off && accessMapped off

/-- The mnemonics of R92. -/
inductive Mnemonic where
  | nop | clrerr | sreset
  | crcInit | crcByte | crcFinal | crcLookup
  | adlInit | adlByte | adlFinal
  | beEnca | beEncr | beDec | beDclr
  | zStart | zData | zAbort
  deriving DecidableEq, Repr

/-- The commands marked IMM8 in R92; every other command takes no operand. -/
def Mnemonic.takesImm8 : Mnemonic → Bool
  | .nop => false
  | .clrerr => false
  | .sreset => false
  | .crcInit => false
  | .crcByte => true
  | .crcFinal => false
  | .crcLookup => true
  | .adlInit => false
  | .adlByte => true
  | .adlFinal => false
  | .beEnca => false
  | .beEncr => false
  | .beDec => true
  | .beDclr => false
  | .zStart => false
  | .zData => true
  | .zAbort => false

/-- A written operand (R97): a number, or a character literal that stands for its ASCII code. Lines are abstract: their
text is not modelled (log entry 18). -/
inductive Operand where
  | number (n : Nat)
  | character (c : Char)
  deriving DecidableEq, Repr

/-- The number an operand stands for (R97). -/
def Operand.value : Operand → Nat
  | .number n => n
  | .character c => c.toNat

/-- R97: a number is in 0..255; a character literal has an ASCII code. -/
def Operand.inRange : Operand → Bool
  | .number n => n ≤ 255
  | .character c => c.toNat ≤ 127

/-- A written command: a mnemonic and at most one operand (R97). -/
structure SourceLine where
  mnemonic : Mnemonic
  operand  : Option Operand
  deriving DecidableEq, Repr

/-- R97: an IMM8 command has one operand, in range; a command without an operand takes none. -/
def SourceLine.wellFormed (l : SourceLine) : Bool :=
  match l.operand with
  | none => !l.mnemonic.takesImm8
  | some o => l.mnemonic.takesImm8 && o.inRange

end Sys2Proof
end

