-- ==== Sys2Proof/Decode.lean ====
section
/-! DEFINITION. The command word (R90), its decoder in the order of R93, the opcode map of R92 as rows, and the encoder.
The decoder is total: a word decodes to one command or is rejected as ILLEGAL_OP or RSVD_NZ (R93, R95). -/

namespace Sys2Proof

/-- OPC, bits 31:24 (R90). -/
def opcOf (w : Word) : Byte := w.extractLsb' 24 8

/-- RSVD, bits 23:8 (R90). -/
def rsvdOf (w : Word) : Half := w.extractLsb' 8 16

/-- IMM8, bits 7:0 (R90, R91). -/
def imm8Of (w : Word) : Byte := w.extractLsb' 0 8

/-- Why a word is no command (R93): the two of the error codes of R221 that decoding raises. -/
inductive DecodeError where
  /-- The OPC is not in R92. -/
  | illegalOp
  /-- A defined OPC with RSVD ≠ 0, or with IMM8 ≠ 0 in a command that takes no operand. -/
  | rsvdNz
  deriving DecidableEq, Repr

/-- The command an OPC of R92 selects, with the byte operand `b` if it takes one; none for the 239 reserved OPC values
(R95). -/
def instrOf (opc b : Byte) : Option Instr :=
  match opc.toNat with
  | 0x00 => some .nop
  | 0x01 => some .clrerr
  | 0x0F => some .sreset
  | 0x10 => some .crcInit
  | 0x11 => some (.crcByte b)
  | 0x12 => some .crcFinal
  | 0x13 => some (.crcLookup b)
  | 0x20 => some .adlInit
  | 0x21 => some (.adlByte b)
  | 0x22 => some .adlFinal
  | 0x30 => some .beEnca
  | 0x31 => some .beEncr
  | 0x32 => some (.beDec b)
  | 0x33 => some .beDclr
  | 0x40 => some .zStart
  | 0x41 => some (.zData b)
  | 0x4F => some .zAbort
  | _ => none

/-- R93: the OPC values {0x11, 0x13, 0x21, 0x32, 0x41} are those whose IMM8 may be nonzero. -/
def opcTakesImm8 (opc : Byte) : Bool :=
  opc == 0x11#8 || opc == 0x13#8 || opc == 0x21#8 || opc == 0x32#8 || opc == 0x41#8

/-- Decode of a command word, in the order of R93. -/
def decode (w : Word) : Except DecodeError Instr :=
  match instrOf (opcOf w) (imm8Of w) with
  | none => .error .illegalOp
  | some i =>
    if rsvdOf w ≠ 0#16 then .error .rsvdNz
    else if opcTakesImm8 (opcOf w) = false ∧ imm8Of w ≠ 0#8 then .error .rsvdNz
    else .ok i

/-- The instruction the decoder reads from a table row's word: one 32-bit word whose bits above `nbits` are zero (log
entry 16). -/
def decodeTableWord (nbits w : Nat) : Option Instr :=
  match decode (BitVec.ofNat 32 (w % 2 ^ nbits)) with
  | .ok i => some i
  | .error _ => none

/-! The opcode map and the encoder. -/

/-- The OPC of a mnemonic (R92). -/
def Mnemonic.opc : Mnemonic → Byte
  | .nop => 0x00#8
  | .clrerr => 0x01#8
  | .sreset => 0x0F#8
  | .crcInit => 0x10#8
  | .crcByte => 0x11#8
  | .crcFinal => 0x12#8
  | .crcLookup => 0x13#8
  | .adlInit => 0x20#8
  | .adlByte => 0x21#8
  | .adlFinal => 0x22#8
  | .beEnca => 0x30#8
  | .beEncr => 0x31#8
  | .beDec => 0x32#8
  | .beDclr => 0x33#8
  | .zStart => 0x40#8
  | .zData => 0x41#8
  | .zAbort => 0x4F#8

/-- A row of R92's opcode map. -/
structure OpcodeRow where
  mnemonic : Mnemonic
  word     : Word
  mask     : Word
  deriving DecidableEq, Repr

/-- R92: `word` is the table's match value and `mask` the bits that must agree with it. -/
def opcodeMap : List OpcodeRow :=
  [ ⟨.nop, 0x00000000#32, 0xFFFFFFFF#32⟩, ⟨.clrerr, 0x01000000#32, 0xFFFFFFFF#32⟩,
    ⟨.sreset, 0x0F000000#32, 0xFFFFFFFF#32⟩, ⟨.crcInit, 0x10000000#32, 0xFFFFFFFF#32⟩,
    ⟨.crcByte, 0x11000000#32, 0xFFFFFF00#32⟩, ⟨.crcFinal, 0x12000000#32, 0xFFFFFFFF#32⟩,
    ⟨.crcLookup, 0x13000000#32, 0xFFFFFF00#32⟩, ⟨.adlInit, 0x20000000#32, 0xFFFFFFFF#32⟩,
    ⟨.adlByte, 0x21000000#32, 0xFFFFFF00#32⟩, ⟨.adlFinal, 0x22000000#32, 0xFFFFFFFF#32⟩ ] ++
  [ ⟨.beEnca, 0x30000000#32, 0xFFFFFFFF#32⟩, ⟨.beEncr, 0x31000000#32, 0xFFFFFFFF#32⟩,
    ⟨.beDec, 0x32000000#32, 0xFFFFFF00#32⟩, ⟨.beDclr, 0x33000000#32, 0xFFFFFFFF#32⟩,
    ⟨.zStart, 0x40000000#32, 0xFFFFFFFF#32⟩, ⟨.zData, 0x41000000#32, 0xFFFFFF00#32⟩,
    ⟨.zAbort, 0x4F000000#32, 0xFFFFFFFF#32⟩ ]

/-- A word matches a row when it agrees with the row's word on the mask (R92). -/
def OpcodeRow.matchesWord (r : OpcodeRow) (w : Word) : Bool := w &&& r.mask == r.word

/-- The mnemonic of a command (R92). -/
def Instr.mnemonic : Instr → Mnemonic
  | .nop => .nop
  | .clrerr => .clrerr
  | .sreset => .sreset
  | .crcInit => .crcInit
  | .crcByte _ => .crcByte
  | .crcFinal => .crcFinal
  | .crcLookup _ => .crcLookup
  | .adlInit => .adlInit
  | .adlByte _ => .adlByte
  | .adlFinal => .adlFinal
  | .beEnca => .beEnca
  | .beEncr => .beEncr
  | .beDec _ => .beDec
  | .beDclr => .beDclr
  | .zStart => .zStart
  | .zData _ => .zData
  | .zAbort => .zAbort

/-- The IMM8 field of a command: its byte operand, or 0 (R90). -/
def Instr.imm8 : Instr → Byte
  | .nop => 0#8
  | .clrerr => 0#8
  | .sreset => 0#8
  | .crcInit => 0#8
  | .crcByte b => b
  | .crcFinal => 0#8
  | .crcLookup i => i
  | .adlInit => 0#8
  | .adlByte b => b
  | .adlFinal => 0#8
  | .beEnca => 0#8
  | .beEncr => 0#8
  | .beDec b => b
  | .beDclr => 0#8
  | .zStart => 0#8
  | .zData b => b
  | .zAbort => 0#8

/-- R97: a command is the single word `(OPC << 24) | b`. -/
def commandWord (opc b : Byte) : Word := opc.setWidth 32 <<< 24 ||| b.setWidth 32

/-- The word of a command (R90, R97). -/
def encode (i : Instr) : Word := commandWord i.mnemonic.opc i.imm8

end Sys2Proof
end

