-- ==== Sys2Proof/Config.lean ====
section
/-! DEFINITION. The parameters of R8 (00_scope.md): the fixed ones as constants, the OPEN ones as the fields of `Config`.
Every value of `Config` is a legal configuration by its type: 11 ≤ OUTQ_DEPTH ≤ 255, and BASE is a multiple of 64. -/

namespace Sys2Proof

/-- The OPEN parameters of R8. They are configuration, not state (R20); a machine carries them in a field that no step
writes (log entries 1 and 2). -/
structure Config where
  /-- OUTQ_DEPTH - 11 (R8, D9). -/
  depthOver : Fin 245
  /-- BASE / 64: which 64-byte window of the bus is the block's (R8, D23). -/
  window : Nat
  deriving DecidableEq, Repr

namespace Config

/-- `OUTQ_DEPTH`, the output queue's capacity in bytes (R8). -/
def outqDepth (c : Config) : Nat := c.depthOver.val + 11

/-- `BASE`, the bus address of the register window (R8, R70). -/
def base (c : Config) : Nat := 64 * c.window

/-- OUTQ_DEPTH = 16, the depth the spec's test vectors take (D32), and BASE = 0.
DESIGN CHOICE (unsafe for a claim that starts from `State.reset` only): log entries 1 and 2. -/
def vectors : Config := { depthOver := 5, window := 0 }

end Config

/-- `POLY`, the reflected CRC polynomial (R8). -/
def poly : Word := 0xEDB88320#32

/-- `ADLER_MOD` (R8). -/
def adlerMod : Nat := 65521

/-- `BLOCK_MAX`, the largest stored-block length, not programmable (R8, R177). -/
def blockMax : Nat := 65535

/-- `ZHDR`, the two zlib header bytes (R8, R171). -/
def zlibHeader : List Byte := [0x78#8, 0x01#8]

end Sys2Proof
end

