-- ==== Sys2Proof/Machine/State.lean ====
section
/-! DEFINITION. The machine's state: everything R20 (10_state.md) gives the block, the configuration of R8 and the
block's boundary with its host; the error codes of R221; and the state after reset (R250). -/

namespace Sys2Proof.Machine

/-- The errors of R221 (60_exceptions.md). Recording one is the block's only reaction to it (R226). -/
inductive ErrorCode where
  /-- Code 1: the OPC of the command word is not in R92. -/
  | illegalOp
  /-- Code 2: a reserved bit of the command word is set. -/
  | rsvdNz
  /-- Code 3: Z.START with a stream open, or Z.DATA with none open. -/
  | zseq
  /-- Code 4: ADL.INIT or ADL.BYTE with a stream open. -/
  | adlBusy
  /-- Code 5: the command's pushes do not fit in OUTQ. -/
  | outOvf
  /-- Code 6: a bus access the register window does not take. -/
  | bus
  deriving DecidableEq, Repr

/-- One event at the block's boundary. `addr` is a bus address of any width (R8: the bus address width is OPEN, log
entry 3) and `size` the access width in bytes (R61). -/
inductive HostEvent where
  /-- A bus write. The spec's `v` has `size` bytes; only a 4-byte write's value is ever looked at (R62), so a write
  carries 32 bits (DEDUCED, log entry 8). -/
  | write (addr size : Nat) (value : Word)
  /-- A bus read. -/
  | read (addr size : Nat)
  /-- The platform's reset input (R250; its place among the accesses is log entry 11). -/
  | reset
  deriving DecidableEq, Repr

/-- The state of the machine. The first fifteen fields are the spec's complete state (R20); the last three are the
model's own (log entries 1, 4 and 5). -/
structure State where
  /-- `ARG` (R23). -/
  arg : Word
  /-- `RESULT` (R24). -/
  result : Word
  /-- `CRC`, the un-inverted accumulator (R25). -/
  crc : Word
  /-- `ADL_A` (R26). -/
  adlA : Half
  /-- `ADL_B` (R26). -/
  adlB : Half
  /-- `DEC` (R27). -/
  dec : Word
  /-- `ZACT`: a stream is open (R28). -/
  zact : Bool
  /-- `ZREM`: data bytes the stream still expects (R28). -/
  zrem : Word
  /-- `ZBLK`: data bytes the current block still expects (R28). -/
  zblk : Half
  /-- `ZFIN`: the current block is the stream's last (R28). -/
  zfin : Bool
  /-- `ZDONE`: a stream has been completed (R28). -/
  zdone : Bool
  /-- `OUTQ`, head first (R29). -/
  outq : List Byte
  /-- `ERR` (R30). -/
  err : Bool
  /-- `EMULT` (R30). -/
  emult : Bool
  /-- `ECODE` (R30, R221). -/
  ecode : BitVec 4
  /-- The configuration of R8, which no step writes (log entries 1 and 2). -/
  config : Config
  /-- The host's accesses and resets that are still to come, in the order it issues them (R72, log entry 4). -/
  pending : List HostEvent
  /-- What the block returned to the last access: none for a write, a reset or an access that is not the block's (log
  entry 5). -/
  readData : Option Word
  deriving DecidableEq, Repr

/-- Why a step stops with a fault: never. "The block never stops or hangs because of an error" (R220), and between
accesses it is idle (R264), so no meaning raises a fault. Safe: nothing is stopped that the block would run. -/
inductive Fault where
  deriving DecidableEq, Repr

/-- Why a step refuses an instruction. -/
inductive Refusal where
  /-- Raised only by an arm of `exec` for a command that has no meaning yet. Safe: the model stops where the block goes
  on. No arm raises it. -/
  | notModelled (mnemonic : String)
  deriving DecidableEq, Repr

/-- A step's outcome. -/
abbrev Outcome := Host.Outcome State Fault Refusal

namespace State

/-- The state of R250 for any configuration, with no access pending (log entries 4 and 5). -/
def resetWith (c : Config) : State where
  arg := 0x00000000#32
  result := 0x00000000#32
  crc := 0xFFFFFFFF#32
  adlA := 1#16
  adlB := 0#16
  dec := 0x00000000#32
  zact := false
  zrem := 0#32
  zblk := 0#16
  zfin := false
  zdone := false
  outq := []
  err := false
  emult := false
  ecode := 0#4
  config := c
  pending := []
  readData := none

/-- The machine right after reset (R250), in the configuration of the spec's test vectors (D32).
DESIGN CHOICE (unsafe for a claim that starts here only): the configuration, log entries 1 and 2. -/
def reset : State := resetWith Config.vectors

end State

end Sys2Proof.Machine
end

