-- ==== Sys2Proof/Machine/Flags.lean ====
section
/-! DEFINITION. The register views of 10_state.md, bit by bit: ADLER (R37), ZSTAT (R40), STATUS (R41) and the value an
OUT read returns (R42). The block has no condition codes (R44): its flags are read only through these views. Every bit a
table shows as "—" reads as 0 (R43). -/

namespace Sys2Proof.Machine

/-- A one-bit flag as a 32-bit value (R10, `zext_32`). -/
def flagBit (f : Bool) : Word := (BitVec.ofBool f).setWidth 32

/-- The code of an error (R221). -/
def ErrorCode.code : ErrorCode → BitVec 4
  | .illegalOp => 1#4
  | .rsvdNz => 2#4
  | .zseq => 3#4
  | .adlBusy => 4#4
  | .outOvf => 5#4
  | .bus => 6#4

/-- The error a rejected word raises (R93). -/
def errorOfDecode : DecodeError → ErrorCode
  | .illegalOp => .illegalOp
  | .rsvdNz => .rsvdNz

/-- `(b << 16) | a` (R37). -/
def adlerWord (a b : Half) : Word := b.setWidth 32 <<< 16 ||| a.setWidth 32

/-- ADLER (R37). -/
def State.adler (s : State) : Word := adlerWord s.adlA s.adlB

/-- ZSTAT (R40, R61). -/
def State.zstat (s : State) : Word :=
  flagBit s.zdone <<< 18 ||| flagBit s.zfin <<< 17 ||| flagBit s.zact <<< 16 ||| s.zblk.setWidth 32

/-- STATUS (R41, R61). -/
def State.status (s : State) : Word :=
  BitVec.ofNat 32 s.config.outqDepth <<< 16 ||| BitVec.ofNat 32 s.outq.length <<< 8 |||
    s.ecode.setWidth 32 <<< 4 ||| flagBit s.emult <<< 1 ||| flagBit s.err

/-- What an OUT read returns for a popped byte: VALID and BYTE (R42). -/
def outWord (b : Byte) : Word := 0x100#32 ||| b.setWidth 32

end Sys2Proof.Machine
end

