-- ==== Sys2Proof/Machine/Operands.lean ====
section
/-! DEFINITION. The operands of the commands (R91): the byte operand, the implicit operands `ARG` and `RESULT`, and the
byte orders of R68. With them what a command needs before its effect (R94): its state check and its push count (R184). -/

namespace Sys2Proof.Machine

/-- IMM8 combined with a 32-bit value: `zext_32(b)` (R91). -/
def imm32 (b : Byte) : Word := b.setWidth 32

/-- The implicit operand of Z.START and BE.ENCA (R91). -/
abbrev State.argOperand (s : State) : Word := s.arg

/-- The implicit operand of BE.ENCR (R91). -/
abbrev State.resultOperand (s : State) : Word := s.result

/-- `u32_be(v)`: four bytes, most significant first (R150). -/
def u32be (v : Word) : List Byte :=
  [v.extractLsb' 24 8, v.extractLsb' 16 8, v.extractLsb' 8 8, v.extractLsb' 0 8]

/-- Two bytes, low byte first: the order of LEN and NLEN (R68, R174). -/
def u16le (v : Half) : List Byte := [v.extractLsb' 0 8, v.extractLsb' 8 8]

/-- R94, `Check(opc)`: Z.START and Z.DATA may raise ZSEQ (R178, R179), ADL.INIT and ADL.BYTE may raise ADL_BUSY (R130,
R131), and no other command has a state check. -/
def stateCheck (i : Instr) (s : State) : Option ErrorCode :=
  match i with
  | .nop => none
  | .clrerr => none
  | .sreset => none
  | .crcInit => none
  | .crcByte _ => none
  | .crcFinal => none
  | .crcLookup _ => none
  | .adlInit => if s.zact = true then some .adlBusy else none
  | .adlByte _ => if s.zact = true then some .adlBusy else none
  | .adlFinal => none
  | .beEnca => none
  | .beEncr => none
  | .beDec _ => none
  | .beDclr => none
  | .zStart => if s.zact = true then some .zseq else none
  | .zData _ => if s.zact = true then none else some .zseq
  | .zAbort => none

/-- R184: the number of bytes a command would push. R184 gives Z.DATA no count with `ZBLK = 0`, a state no run reaches
while a stream is open (R28); the count there is the one its pseudocode pushes (log entry 9). -/
def pushCount (i : Instr) (s : State) : Nat :=
  match i with
  | .nop => 0
  | .clrerr => 0
  | .sreset => 0
  | .crcInit => 0
  | .crcByte _ => 0
  | .crcFinal => 0
  | .crcLookup _ => 0
  | .adlInit => 0
  | .adlByte _ => 0
  | .adlFinal => 0
  | .beEnca => 4
  | .beEncr => 4
  | .beDec _ => 0
  | .beDclr => 0
  | .zStart => if s.argOperand = 0#32 then 11 else 7
  | .zData _ => if s.zblk = 1#16 then (if s.zrem = 1#32 then 5 else 6) else 1
  | .zAbort => 0

end Sys2Proof.Machine
end

