-- ==== Sys2Proof/Machine/Ops.lean ====
section
/-! DEFINITION. The shared operations: the output queue (R74), recording an error and clearing it (R222, R226, R201), the
reset of the block (R250), the Adler update (R131), and the execution of a decoded command (R94). The block has no memory
(R60), so there is no memory operation. -/

namespace Sys2Proof.Machine

namespace State

/-- `Push(b)`: append at the tail of OUTQ (R74). -/
def push (s : State) (b : Byte) : State := { s with outq := s.outq ++ [b] }

/-- `Push` of each byte in order (R12). -/
def pushAll (s : State) (bs : List Byte) : State := { s with outq := s.outq ++ bs }

/-- The state with `q` as OUTQ (R74). -/
def withQueue (s : State) (q : List Byte) : State := { s with outq := q }

/-- `Pop()`: the head byte of OUTQ and the state without it; none when OUTQ is empty (R42, R74). -/
def pop? (s : State) : Option (Byte × State) :=
  match s.outq with
  | [] => none
  | b :: rest => some (b, s.withQueue rest)

/-- Taking an error: `RecordError(code)` (R222). Nothing else changes and control goes nowhere (R226). -/
def recordError (s : State) (c : ErrorCode) : State :=
  if s.err = false then { s with err := true, ecode := c.code } else { s with emult := true }

/-- The way back from an error: the error state is cleared (R201, R227). -/
def clearErrors (s : State) : State := { s with err := false, emult := false, ecode := 0#4 }

/-- Every state element of R20 takes its reset value (R250, R202, R251). The configuration is no state element, and what
the host still issues is outside the block (log entries 1, 11 and 17). -/
def resetBlock (s : State) : State :=
  { resetWith s.config with pending := s.pending, readData := s.readData }

/-- Write `ADL_A` and `ADL_B` to the document's starting values, `a = 1`, `b = 0` (R130, R178). -/
def adlerInit (s : State) : State := { s with adlA := 1#16, adlB := 0#16 }

end State

/-- The new `a` of R131: `(a + b) mod 65521`, exact (R133). -/
def adlerA (a : Half) (byte : Byte) : Half := BitVec.ofNat 16 ((a.toNat + byte.toNat) % adlerMod)

/-- The new `b` of R131: `(b + a') mod 65521` for the new `a'`, exact (R133). -/
def adlerB (b a' : Half) : Half := BitVec.ofNat 16 ((b.toNat + a'.toNat) % adlerMod)

/-- The Adler update of R131, which Z.DATA shares (R179). -/
def State.adlerUpdate (s : State) (byte : Byte) : State :=
  let a' := adlerA s.adlA byte
  { s with adlA := a', adlB := adlerB s.adlB a' }

/-- The error a decoded command raises, if any: its state check, then the room in OUTQ (R94, R223, R74). R94 checks the
room for every k, so for k = 0 too (log entry 14). -/
def commandError (i : Instr) (s : State) : Option ErrorCode :=
  match stateCheck i s with
  | some c => some c
  | none => if s.outq.length + pushCount i s ≤ s.config.outqDepth then none else some .outOvf

/-- R94 after decoding: a command that raises an error only records it (R226); any other has its whole effect at once
(R67). -/
def runCommand (i : Instr) (effect : State → State) (s : State) : Outcome :=
  match commandError i s with
  | some c => .next (s.recordError c)
  | none => .next (effect s)

end Sys2Proof.Machine
end

