-- ==== Sys2Proof/Machine/Adler.lean ====
section
/-! DEFINITION. The Adler-32 accumulator's commands (42_adler.md). -/

namespace Sys2Proof.Machine

/-- ADL.INIT: `ADL_A <- 1; ADL_B <- 0`, refused with ADL_BUSY while a stream is open (R130). -/
def execAdlInit (s : State) : Outcome := runCommand .adlInit State.adlerInit s

/-- ADL.BYTE b: the Adler update, refused with ADL_BUSY while a stream is open (R131). -/
def execAdlByte (b : Byte) (s : State) : Outcome := runCommand (.adlByte b) (fun s => s.adlerUpdate b) s

/-- ADL.FINAL: `RESULT <- (ADL_B << 16) | ADL_A`, allowed while a stream is open (R132). -/
def execAdlFinal (s : State) : Outcome := runCommand .adlFinal (fun s => { s with result := s.adler }) s

end Sys2Proof.Machine
end

