-- ==== Sys2Proof/Machine/Codec.lean ====
section
/-! DEFINITION. The big-endian codec's commands (43_becodec.md). -/

namespace Sys2Proof.Machine

/-- BE.ENCA: push `u32_be(ARG)` (R151). -/
def execBeEnca (s : State) : Outcome := runCommand .beEnca (fun s => s.pushAll (u32be s.argOperand)) s

/-- BE.ENCR: push `u32_be(RESULT)` (R152). -/
def execBeEncr (s : State) : Outcome := runCommand .beEncr (fun s => s.pushAll (u32be s.resultOperand)) s

/-- BE.DEC b: `DEC <- (DEC << 8) | zext_32(b)` (R153). -/
def execBeDec (b : Byte) (s : State) : Outcome :=
  runCommand (.beDec b) (fun s => { s with dec := s.dec <<< 8 ||| imm32 b }) s

/-- BE.DCLR: `DEC <- 0` (R154). -/
def execBeDclr (s : State) : Outcome := runCommand .beDclr (fun s => { s with dec := 0x00000000#32 }) s

end Sys2Proof.Machine
end

