-- ==== Sys2Proof/Machine/Crc.lean ====
section
/-! DEFINITION. The CRC-32 lookup engine (41_crc.md): the table ROM and its four commands. -/

namespace Sys2Proof.Machine

/-- One step of R110's loop: shift right, and XOR the polynomial in when the bit shifted out was 1. -/
def crcStep (c : Word) : Word := if c.getLsbD 0 = true then poly ^^^ (c >>> 1) else c >>> 1

/-- `n` steps of R110's loop. -/
def crcSteps : Nat → Word → Word
  | 0, c => c
  | n + 1, c => crcSteps n (crcStep c)

/-- `T[n]`: the table ROM, eight steps from the index (R110). A ROM holds no state (R31): no command, access or reset
changes it (log entry 10). -/
def crcTable (n : Byte) : Word := crcSteps 8 (n.setWidth 32)

/-- The accumulator after one more byte (R112). -/
def crcUpdate (c : Word) (b : Byte) : Word :=
  let x := c ^^^ imm32 b
  (x >>> 8) ^^^ crcTable (x.extractLsb' 0 8)

/-- CRC.INIT: `CRC <- 0xFFFFFFFF` (R111). -/
def execCrcInit (s : State) : Outcome := runCommand .crcInit (fun s => { s with crc := 0xFFFFFFFF#32 }) s

/-- CRC.BYTE b: feed one byte into the accumulator (R112). -/
def execCrcByte (b : Byte) (s : State) : Outcome :=
  runCommand (.crcByte b) (fun s => { s with crc := crcUpdate s.crc b }) s

/-- CRC.FINAL: `RESULT <- CRC ^ 0xFFFFFFFF`, with CRC unchanged (R113). -/
def execCrcFinal (s : State) : Outcome :=
  runCommand .crcFinal (fun s => { s with result := s.crc ^^^ 0xFFFFFFFF#32 }) s

/-- CRC.LOOKUP i: `RESULT <- T[i]` (R114). -/
def execCrcLookup (i : Byte) (s : State) : Outcome :=
  runCommand (.crcLookup i) (fun s => { s with result := crcTable i }) s

end Sys2Proof.Machine
end

