-- ==== Sys2Proof/Machine/Framer.lean ====
section
/-! DEFINITION. The zlib stored-block framer (44_zlib_framer.md). -/

namespace Sys2Proof.Machine

/-- The length of the block that opens when `r` bytes remain: `min(r, 65535)` (R177). -/
def blockLength (r : Word) : Half := BitVec.ofNat 16 (min r.toNat blockMax)

/-- Whether the block that opens when `r` bytes remain is the last: `r <= 65535` (R177). -/
def blockIsLast (r : Word) : Bool := r.toNat ≤ blockMax

/-- The block header byte: bit 0 is BFINAL, every other bit is 0 (R173). -/
def blockHeaderByte (last : Bool) : Byte := (BitVec.ofBool last).setWidth 8

/-- H, LEN and NLEN: the five bytes in front of a block's data (R173, R174). -/
def blockHeaderBytes (last : Bool) (len : Half) : List Byte :=
  blockHeaderByte last :: (u16le len ++ u16le (~~~len))

/-- `BlockHeader(r)` (R177). -/
def State.blockHeader (s : State) (r : Word) : State :=
  { s.pushAll (blockHeaderBytes (blockIsLast r) (blockLength r)) with
    zblk := blockLength r, zfin := blockIsLast r }

/-- Write `ZDONE` (R178). -/
def State.setDone (s : State) (d : Bool) : State := { s with zdone := d }

/-- The stream is open with `n` bytes to come: `ZREM <- n; ZACT <- 1` (R178). -/
def State.openStream (s : State) (n : Word) : State := { s with zrem := n, zact := true }

/-- One data byte has been taken: `ZREM <- ZREM - 1; ZBLK <- ZBLK - 1` (R179). -/
def State.countDown (s : State) : State := { s with zrem := s.zrem - 1#32, zblk := s.zblk - 1#16 }

/-- The end of a stream: `ZACT <- 0; ZFIN <- 0; ZDONE <- 1` (R179). -/
def State.closeStream (s : State) : State := { s with zact := false, zfin := false, zdone := true }

/-- The effect of Z.START (R178), for N = `ARG`. -/
def zStartEffect (s : State) : State :=
  let n := s.argOperand
  let s1 := s.adlerInit.pushAll zlibHeader
  if n = 0#32 then
    ((s1.pushAll [0x01#8, 0x00#8, 0x00#8, 0xFF#8, 0xFF#8]).pushAll (u32be 0x00000001#32)).setDone true
  else ((s1.setDone false).blockHeader n).openStream n

/-- The effect of Z.DATA b (R179): the byte, the Adler update, the counts, and at the end of a block the trailer or the
next block's header. -/
def zDataEffect (b : Byte) (s : State) : State :=
  let s1 := ((s.push b).adlerUpdate b).countDown
  if s1.zblk = 0#16 then
    if s1.zrem = 0#32 then (s1.pushAll (u32be s1.adler)).closeStream
    else s1.blockHeader s1.zrem
  else s1

/-- The effect of Z.ABORT: all framer state 0 (R180). -/
def zAbortEffect (s : State) : State :=
  { s with zact := false, zrem := 0#32, zblk := 0#16, zfin := false, zdone := false }

/-- Z.START: open a stream of `ARG` bytes, refused with ZSEQ while a stream is open (R178). -/
def execZStart (s : State) : Outcome := runCommand .zStart zStartEffect s

/-- Z.DATA b: feed one data byte, refused with ZSEQ while no stream is open (R179). -/
def execZData (b : Byte) (s : State) : Outcome := runCommand (.zData b) (zDataEffect b) s

/-- Z.ABORT: abandon the open stream (R180). -/
def execZAbort (s : State) : Outcome := runCommand .zAbort zAbortEffect s

end Sys2Proof.Machine
end

