-- ==== Sys2Proof/Machine/System.lean ====
section
/-! DEFINITION. The system commands (45_system.md). -/

namespace Sys2Proof.Machine

/-- NOP: no state changes (R200). -/
def execNop (s : State) : Outcome := runCommand .nop (fun s => s) s

/-- CLRERR: `ERR <- 0; EMULT <- 0; ECODE <- 0` (R201). -/
def execClrerr (s : State) : Outcome := runCommand .clrerr State.clearErrors s

/-- SRESET: the effect of the reset input (R202, R251). -/
def execSreset (s : State) : Outcome := runCommand .sreset State.resetBlock s

end Sys2Proof.Machine
end

