-- ==== Sys2Proof/Machine/Dispatch.lean ====
section
/-! DEFINITION. Each command's meaning (R94, `Effect(opc, b)`). -/

namespace Sys2Proof.Machine

def exec (i : Instr) (s : State) : Host.Outcome State Fault Refusal :=
  match i with
  | .nop => Sys2Proof.Machine.execNop s
  | .clrerr => Sys2Proof.Machine.execClrerr s
  | .sreset => Sys2Proof.Machine.execSreset s
  | .crcInit => Sys2Proof.Machine.execCrcInit s
  | .crcByte b => Sys2Proof.Machine.execCrcByte b s
  | .crcFinal => Sys2Proof.Machine.execCrcFinal s
  | .crcLookup n => Sys2Proof.Machine.execCrcLookup n s
  | .adlInit => Sys2Proof.Machine.execAdlInit s
  | .adlByte b => Sys2Proof.Machine.execAdlByte b s
  | .adlFinal => Sys2Proof.Machine.execAdlFinal s
  | .beEnca => Sys2Proof.Machine.execBeEnca s
  | .beEncr => Sys2Proof.Machine.execBeEncr s
  | .beDec b => Sys2Proof.Machine.execBeDec b s
  | .beDclr => Sys2Proof.Machine.execBeDclr s
  | .zStart => Sys2Proof.Machine.execZStart s
  | .zData b => Sys2Proof.Machine.execZData b s
  | .zAbort => Sys2Proof.Machine.execZAbort s

end Sys2Proof.Machine
end

