-- ==== Sys2Proof/Machine/Bus.lean ====
section
/-! DEFINITION. The register window (10_state.md R32, 20_memory.md R61 to R66): bus writes and reads, the execution of a
command word written to CMD (R94), and one event at the block's boundary. -/

namespace Sys2Proof.Machine

/-- The registers of R32. -/
inductive Reg where
  | cmd | arg | result | crc | adler | dec | zrem | zstat | status | out
  deriving DecidableEq, Repr

/-- The offset of a register in the window (R32). -/
def Reg.offset : Reg → Nat
  | .cmd => 0x00
  | .arg => 0x04
  | .result => 0x08
  | .crc => 0x0C
  | .adler => 0x10
  | .dec => 0x14
  | .zrem => 0x18
  | .zstat => 0x1C
  | .status => 0x20
  | .out => 0x24

/-- The register at an offset; none at 0x28..0x3C and at an offset that is no multiple of 4 (R32, R62, R63). -/
def regAt (off : Nat) : Option Reg :=
  match off with
  | 0x00 => some .cmd
  | 0x04 => some .arg
  | 0x08 => some .result
  | 0x0C => some .crc
  | 0x10 => some .adler
  | 0x14 => some .dec
  | 0x18 => some .zrem
  | 0x1C => some .zstat
  | 0x20 => some .status
  | 0x24 => some .out
  | _ => none

/-- `raise Error(code)`: the access ends with the error recorded and no other effect (R11, R226). -/
def raise (c : ErrorCode) (s : State) : Outcome := .next (s.recordError c)

/-- Executing a command word written to CMD (R94). -/
def execute (w : Word) (s : State) : Outcome :=
  match decode w with
  | .error e => raise (errorOfDecode e) s
  | .ok i => exec i s

/-- `BusWrite(off, size, v)` (R61): a command, a value for ARG, or a BUS error (R62, R63, R64). -/
def busWrite (off size : Nat) (v : Word) (s : State) : Outcome :=
  if accessWellFormed off size = false then raise .bus s
  else match regAt off with
    | some .cmd => execute v s
    | some .arg => .next { s with arg := v }
    | some .result => raise .bus s
    | some .crc => raise .bus s
    | some .adler => raise .bus s
    | some .dec => raise .bus s
    | some .zrem => raise .bus s
    | some .zstat => raise .bus s
    | some .status => raise .bus s
    | some .out => raise .bus s
    | none => raise .bus s

/-- The read of OUT: pop the head byte, or 0 with no effect when OUTQ is empty (R42). -/
def readOut (s : State) : Word × State :=
  match s.pop? with
  | none => (0x00000000#32, s)
  | some (b, t) => (outWord b, t)

/-- A read of a register: the value and the state after it. Only OUT has a side effect (R61, R66). -/
def readReg (r : Reg) (s : State) : Word × State :=
  match r with
  | .cmd => (0x00000000#32, s)
  | .arg => (s.arg, s)
  | .result => (s.result, s)
  | .crc => (s.crc, s)
  | .adler => (s.adler, s)
  | .dec => (s.dec, s)
  | .zrem => (s.zrem, s)
  | .zstat => (s.zstat, s)
  | .status => (s.status, s)
  | .out => readOut s

/-- `BusRead(off, size)` (R61): the value returned and the state after. An access that is not well-formed records BUS
and returns 0 (R62, R63). -/
def busRead (off size : Nat) (s : State) : Word × State :=
  if accessWellFormed off size = false then (0x00000000#32, s.recordError .bus)
  else match regAt off with
    | some r => readReg r s
    | none => (0x00000000#32, s.recordError .bus)

/-- Whether a bus address lies in the block's 64-byte window (R32, R63). The access's address decides, whatever its size
(log entry 7). -/
def inWindow (c : Config) (addr : Nat) : Bool := c.base ≤ addr && addr < c.base + 64

/-- The offset of a bus address in the window: its bits [5:0] (R8). -/
def windowOffset (addr : Nat) : Nat := addr % 64

/-- The state after a read that returned `v` to the host (log entry 5). -/
def State.returning (s : State) (v : Word) : State := { s with readData := some v }

/-- The block's reaction to one event. An access outside the window is not the block's: it changes nothing and the block
returns nothing (R63, log entry 6). -/
def react (e : HostEvent) (s : State) : Outcome :=
  match e with
  | .write addr size v => if inWindow s.config addr = true then busWrite (windowOffset addr) size v s else .next s
  | .read addr size =>
    if inWindow s.config addr = true then
      .next ((busRead (windowOffset addr) size s).2.returning (busRead (windowOffset addr) size s).1)
    else .next s
  | .reset => .next s.resetBlock

/-- The state in which the block reacts to the first pending event: the rest still pending, and nothing returned yet. -/
def State.taking (s : State) (rest : List HostEvent) : State := { s with pending := rest, readData := none }

/-- The host's access that runs a command: `W CMD, w` (R97, R99). -/
def cmdWrite (c : Config) (w : Word) : HostEvent := .write (c.base + Reg.cmd.offset) 4 w

/-- The state with a command word as the host's next access, before those already pending. -/
def State.issue (s : State) (w : Word) : State := { s with pending := cmdWrite s.config w :: s.pending }

end Sys2Proof.Machine
end

