-- ==== Sys2Proof/Machine/Step.lean ====
section
/-! DEFINITION. One step: the block reacts to the host's next event, atomically (R67, R72, R263). With none pending it is
idle: nothing changes and nothing halts (R264). -/

namespace Sys2Proof.Machine

/-- One step of the machine. -/
def step (s : State) : Host.Outcome State Fault Refusal :=
  match s.pending with
  | [] => .next s
  | e :: rest => react e (s.taking rest)

/-- The state whose next step runs the command word `w`: the host's next access is `W CMD, w` (log entries 4
and 16). -/
def State.withFetchWord (s : State) (nbits w : Nat) : State := s.issue (BitVec.ofNat 32 (w % 2 ^ nbits))

end Sys2Proof.Machine
end

