-- ==== Sys2Proof/Machine/Assembler.lean ====
section
/-! DEFINITION. The host's notation (30_encoding.md): assembling a written command (R97), the accesses `W` and `R` (R99),
and the pseudo-instructions (R98). The block sees only the accesses they expand to. -/

namespace Sys2Proof.Machine

/-- The command a mnemonic and a byte stand for (R92). -/
def commandOf (m : Mnemonic) (b : Byte) : Instr :=
  match m with
  | .nop => .nop
  | .clrerr => .clrerr
  | .sreset => .sreset
  | .crcInit => .crcInit
  | .crcByte => .crcByte b
  | .crcFinal => .crcFinal
  | .crcLookup => .crcLookup b
  | .adlInit => .adlInit
  | .adlByte => .adlByte b
  | .adlFinal => .adlFinal
  | .beEnca => .beEnca
  | .beEncr => .beEncr
  | .beDec => .beDec b
  | .beDclr => .beDclr
  | .zStart => .zStart
  | .zData => .zData b
  | .zAbort => .zAbort

/-- The byte operand of a written command, 0 where it has none. -/
def operandByte (l : SourceLine) : Byte :=
  match l.operand with
  | none => 0#8
  | some o => BitVec.ofNat 8 o.value

/-- R97: a written command assembles to the single word `(OPC << 24) | b`; an ill-formed one produces no word. -/
def assemble (l : SourceLine) : Option Word :=
  if l.wellFormed = true then some (encode (commandOf l.mnemonic (operandByte l))) else none

/-- `W <reg>, <value>` (R99). -/
def writeReg (c : Config) (r : Reg) (v : Word) : HostEvent := .write (c.base + r.offset) 4 v

/-- `R <reg>` (R99). -/
def readOf (c : Config) (r : Reg) : HostEvent := .read (c.base + r.offset) 4

/-- `W.<size> <offset>, <value>` (R99). -/
def writeSized (c : Config) (size off : Nat) (v : Word) : HostEvent := .write (c.base + off) size v

/-- `R.<size> <offset>` (R99). -/
def readSized (c : Config) (size off : Nat) : HostEvent := .read (c.base + off) size

/-- A command, as the host's access `W CMD, <its word>` (R97). -/
def issueOf (c : Config) (i : Instr) : HostEvent := writeReg c .cmd (encode i)

/-- The pseudo-instructions of R98; a string is its ASCII bytes. -/
inductive Pseudo where
  /-- `CRC.STR "s"`. -/
  | crcStr (s : List Byte)
  /-- `CRC.OF "s"`. -/
  | crcOf (s : List Byte)
  /-- `ADL.STR "s"`. -/
  | adlStr (s : List Byte)
  /-- `ADL.OF "s"`. -/
  | adlOf (s : List Byte)
  /-- `BE.DECW v`. -/
  | beDecw (v : Word)
  /-- `LI ARG, v`. -/
  | liArg (v : Word)
  /-- `ENC v`. -/
  | enc (v : Word)
  /-- `Z.BYTES b0, ..., bn`. -/
  | zBytes (d : List Byte)
  /-- `Z.STREAM b0, ..., b(n-1)`; draining OUTQ between its commands is the host's. -/
  | zStream (d : List Byte)
  /-- `DRAIN k`. -/
  | drain (k : Nat)
  deriving DecidableEq, Repr

/-- The accesses a pseudo-instruction expands to (R98). -/
def Pseudo.expand (c : Config) : Pseudo → List HostEvent
  | .crcStr s => s.map fun b => issueOf c (.crcByte b)
  | .crcOf s => issueOf c .crcInit :: (s.map (fun b => issueOf c (.crcByte b)) ++ [issueOf c .crcFinal])
  | .adlStr s => s.map fun b => issueOf c (.adlByte b)
  | .adlOf s => issueOf c .adlInit :: (s.map (fun b => issueOf c (.adlByte b)) ++ [issueOf c .adlFinal])
  | .beDecw v => (u32be v).map fun b => issueOf c (.beDec b)
  | .liArg v => [writeReg c .arg v]
  | .enc v => [writeReg c .arg v, issueOf c .beEnca]
  | .zBytes d => d.map fun b => issueOf c (.zData b)
  | .zStream d =>
    writeReg c .arg (BitVec.ofNat 32 d.length) :: issueOf c .zStart :: d.map fun b => issueOf c (.zData b)
  | .drain k => List.replicate k (readOf c .out)

end Sys2Proof.Machine
end

