-- ==== Sys2Proof/Machine/Reference.lean ====
section
/-! DEFINITION. The document's functions over whole byte sequences, as the spec quotes them: `crc32` (R112, R113, R115),
`adler32` (R131, R132, R134), and the zlib stream of stored blocks (R170 to R176), with a reader for such streams (R181).
No command calls them: claims compare what sequences of commands leave with what these functions say. -/

namespace Sys2Proof.Machine

/-- "for each byte, XOR into the low byte of the accumulator, then `accumulator = (accumulator >> 8) ^
table[accumulator & 0xFF]`" (R112). -/
def docCrcByte (acc : Word) (b : Byte) : Word :=
  let acc := acc ^^^ b.setWidth 32
  (acc >>> 8) ^^^ crcTable ((acc &&& 0xFF#32).setWidth 8)

/-- The document's `crc32` (R115). -/
def docCrc32 (d : List Byte) : Word := d.foldl docCrcByte 0xFFFFFFFF#32 ^^^ 0xFFFFFFFF#32

/-- CRC-32 without a table: every message bit is divided by the reflected polynomial in turn (the construction of R110
applied to the accumulator itself). -/
def bitSerialCrc32 (d : List Byte) : Word :=
  d.foldl (fun acc b => crcSteps 8 (acc ^^^ b.setWidth 32)) 0xFFFFFFFF#32 ^^^ 0xFFFFFFFF#32

/-- "for each byte, `a = (a + byte) mod 65521`, `b = (b + a) mod 65521`" (R131), on exact naturals. -/
def docAdlerByte (ab : Nat × Nat) (byte : Byte) : Nat × Nat :=
  ((ab.1 + byte.toNat) % 65521, (ab.2 + (ab.1 + byte.toNat) % 65521) % 65521)

/-- The sums `a` and `b` after a byte sequence; "`a` starts at 1, `b` at 0" (R130). -/
def docAdlerSums (d : List Byte) : Nat × Nat := d.foldl docAdlerByte (1, 0)

/-- The document's `adler32`: "result is `(b << 16) | a`" (R132). -/
def docAdler32 (d : List Byte) : Word := BitVec.ofNat 32 ((docAdlerSums d).2 * 65536 + (docAdlerSums d).1)

/-- The byte that holds `n / 256 ^ k mod 256`. -/
def byteAt (n k : Nat) : Byte := BitVec.ofNat 8 (n / 256 ^ k)

/-- One stored block (R173, R174): H, LEN and NLEN low byte first, and the data verbatim. -/
def storedBlock (last : Bool) (d : List Byte) : List Byte :=
  [if last then 0x01#8 else 0x00#8, byteAt d.length 0, byteAt d.length 1,
    byteAt (65535 - d.length) 0, byteAt (65535 - d.length) 1] ++ d

/-- Greedy splitting into blocks of at most 65535 bytes, with `fuel` enough for the sequence (R172). -/
def splitFuel : Nat → List Byte → List (List Byte)
  | 0, d => [d]
  | fuel + 1, d => if d.length ≤ 65535 then [d] else d.take 65535 :: splitFuel fuel (d.drop 65535)

/-- The blocks of a byte sequence; an empty sequence has one, empty, block (R172, R175). -/
def splitBlocks (d : List Byte) : List (List Byte) := splitFuel (d.length / 65535) d

/-- The blocks' bytes; only the last has BFINAL = 1 (R173). -/
def framedBlocks : List (List Byte) → List Byte
  | [] => []
  | [d] => storedBlock true d
  | d :: e :: rest => storedBlock false d ++ framedBlocks (e :: rest)

/-- The trailer: four bytes, most significant first (R176). -/
def trailer (v : Word) : List Byte := [byteAt v.toNat 3, byteAt v.toNat 2, byteAt v.toNat 1, byteAt v.toNat 0]

/-- The zlib stream of a byte sequence: header, blocks, trailer (R170, R171). -/
def zlibStream (d : List Byte) : List Byte :=
  [0x78#8, 0x01#8] ++ framedBlocks (splitBlocks d) ++ trailer (docAdler32 d)

/-- Read stored blocks up to the final one: the data, and what follows. None where a block header byte is neither 0x00
nor 0x01, NLEN is not the complement of LEN, or bytes are missing. -/
def readBlocks : Nat → List Byte → Option (List Byte × List Byte)
  | 0, _ => none
  | fuel + 1, h :: l0 :: l1 :: n0 :: n1 :: body =>
    let len := l0.toNat + 256 * l1.toNat
    let nlen := n0.toNat + 256 * n1.toNat
    if len + nlen = 65535 ∧ len ≤ body.length then
      if h = 0x01#8 then some (body.take len, body.drop len)
      else if h = 0x00#8 then (readBlocks fuel (body.drop len)).map fun r => (body.take len ++ r.1, r.2)
      else none
    else none
  | _ + 1, _ => none

/-- Read a zlib stream of stored blocks whose trailer validates against the data it carries (R181). -/
def readStream : List Byte → Option (List Byte)
  | cmf :: flg :: rest =>
    if cmf = 0x78#8 ∧ flg = 0x01#8 then
      match readBlocks rest.length rest with
      | some (d, t) => if t = trailer (docAdler32 d) then some d else none
      | none => none
    else none
  | _ => none

end Sys2Proof.Machine
end

