-- ==== Sys2Proof/Safety.lean ====
section
/-! DEFINITION. The terms claims use: the invariants the spec states of the block's state (R26, R28, R29, R30), sequences
of events (R115, R134, R155), and a framer run with other accesses between its commands (R181). -/

namespace Sys2Proof.Machine

/-- R26: the Adler sums are reduced. -/
abbrev State.AdlerReduced (s : State) : Prop := s.adlA.toNat ≤ 65520 ∧ s.adlB.toNat ≤ 65520

/-- R29: OUTQ holds at most `OUTQ_DEPTH` bytes. -/
abbrev State.QueueFits (s : State) : Prop := s.outq.length ≤ s.config.outqDepth

/-- R28: the framer's invariants. -/
abbrev State.FramerOk (s : State) : Prop :=
  (s.zact = false → s.zrem = 0#32 ∧ s.zblk = 0#16 ∧ s.zfin = false) ∧
  (s.zact = true → 1 ≤ s.zblk.toNat ∧ s.zblk.toNat ≤ 65535 ∧ s.zblk.toNat ≤ s.zrem.toNat ∧
    (s.zfin = true ↔ s.zrem.toNat = s.zblk.toNat)) ∧
  ¬(s.zact = true ∧ s.zdone = true)

/-- R221, R222: no error recorded leaves ECODE and EMULT 0, and a recorded error has a code of 1..6 (DEDUCED from the
recording rule, log entry 13). -/
abbrev State.ErrorsOk (s : State) : Prop :=
  (s.err = false → s.emult = false ∧ s.ecode = 0#4) ∧ (s.err = true → 1 ≤ s.ecode.toNat ∧ s.ecode.toNat ≤ 6)

/-- Every invariant of the block's state. -/
abbrev State.Inv (s : State) : Prop := s.AdlerReduced ∧ s.QueueFits ∧ s.FramerOk ∧ s.ErrorsOk

/-- The events of a sequence, one after the other. -/
def reactAll : List HostEvent → State → Outcome
  | [], s => .next s
  | e :: rest, s =>
    match react e s with
    | .next t => reactAll rest t
    | .fault f => .fault f
    | .refused r => .refused r

/-- A command of R178, R179 or R180. -/
def isFramerCommand : Instr → Bool
  | .zStart => true
  | .zData _ => true
  | .zAbort => true
  | .nop => false
  | .clrerr => false
  | .sreset => false
  | .crcInit => false
  | .crcByte _ => false
  | .crcFinal => false
  | .crcLookup _ => false
  | .adlInit => false
  | .adlByte _ => false
  | .adlFinal => false
  | .beEnca => false
  | .beEncr => false
  | .beDec _ => false
  | .beDclr => false

/-- Whether an event is a well-formed write to CMD of a command with the property `p`. -/
def isCommandEvent (p : Instr → Bool) (c : Config) (e : HostEvent) : Bool :=
  match e with
  | .write addr size v =>
    inWindow c addr && accessWellFormed (windowOffset addr) size && windowOffset addr == Reg.cmd.offset &&
      (match decode v with
      | .ok i => p i
      | .error _ => false)
  | .read _ _ => false
  | .reset => false

/-- Whether an event is a well-formed write of a framer command to CMD. -/
def isFramerEvent (c : Config) (e : HostEvent) : Bool := isCommandEvent isFramerCommand c e

/-- Whether an event resets the block: the reset input, or SRESET (R251). -/
def isResetEvent (c : Config) (e : HostEvent) : Bool := e == .reset || isCommandEvent (· == .sreset) c e

/-- A command raises no error and appends exactly `out` to OUTQ. -/
def RunsPushing (i : Instr) (s : State) (out : List Byte) (t : State) : Prop :=
  commandError i s = none ∧ exec i s = .next t ∧ t.outq = s.outq ++ out

/-- R181: from `s`, `Z.DATA` of each byte of `d` in turn raises no error, with any events that are no framer commands
between, and ends in `t` right after the last; `out` is what these commands push. -/
inductive FramerFeed : State → List Byte → List Byte → State → Prop where
  /-- No byte is left. -/
  | done (s : State) : FramerFeed s [] [] s
  /-- The next data byte. -/
  | data {s s' t : State} {b : Byte} {d out rest : List Byte} :
      RunsPushing (.zData b) s out s' → FramerFeed s' d rest t → FramerFeed s (b :: d) (out ++ rest) t
  /-- An event that is no framer command, before the next data byte. -/
  | between {s s' t : State} {e : HostEvent} {b : Byte} {d rest : List Byte} :
      isFramerEvent s.config e = false → react e s = .next s' → FramerFeed s' (b :: d) rest t →
      FramerFeed s (b :: d) rest t

/-- From `s`, `Z.DATA` of each byte of `d` in turn, each with OUTQ empty and whatever its outcome, ends in `t`; between
them stand any events that neither are framer commands nor reset the block. `errors` is the error each `Z.DATA` raises,
if any. -/
inductive DrainedFeed : State → List Byte → List (Option ErrorCode) → State → Prop where
  /-- No byte is left. -/
  | done (s : State) : DrainedFeed s [] [] s
  /-- The next data byte, with OUTQ empty. -/
  | data {s s' t : State} {b : Byte} {d : List Byte} {errors : List (Option ErrorCode)} :
      s.outq = [] → exec (.zData b) s = .next s' → DrainedFeed s' d errors t →
      DrainedFeed s (b :: d) (commandError (.zData b) s :: errors) t
  /-- Another event, before the next data byte. -/
  | between {s s' t : State} {e : HostEvent} {b : Byte} {d : List Byte} {errors : List (Option ErrorCode)} :
      isFramerEvent s.config e = false → isResetEvent s.config e = false → react e s = .next s' →
      DrainedFeed s' (b :: d) errors t → DrainedFeed s (b :: d) errors t

/-- The defined OPC values, as R93 lists them. -/
def definedOpcs : List Byte :=
  [0x00#8, 0x01#8, 0x0F#8, 0x10#8, 0x11#8, 0x12#8, 0x13#8, 0x20#8, 0x21#8, 0x22#8, 0x30#8, 0x31#8, 0x32#8, 0x33#8,
    0x40#8, 0x41#8, 0x4F#8]

/-- The OPC values whose IMM8 may be nonzero, as R93 lists them. -/
def imm8Opcs : List Byte := [0x11#8, 0x13#8, 0x21#8, 0x32#8, 0x41#8]

/-- A command without an operand has the one word `w`: any other word with its OPC is rejected, and executing it only
records RSVD_NZ (R92, R95, R226). -/
def HasOneWord (i : Instr) (w : Word) : Prop :=
  decode w = .ok i ∧ ∀ v : Word, opcOf v = opcOf w → v ≠ w →
    decode v = .error .rsvdNz ∧ ∀ s : State, execute v s = .next (s.recordError .rsvdNz)

/-- An IMM8 command has the words `w | b`, one for each byte operand; a word with its OPC and a nonzero RSVD field is
rejected, and executing it only records RSVD_NZ (R92, R95, R226). -/
def HasByteWords (f : Byte → Instr) (w : Word) : Prop :=
  (∀ b : Byte, decode (w ||| b.setWidth 32) = .ok (f b)) ∧
    ∀ v : Word, opcOf v = opcOf w → rsvdOf v ≠ 0#16 →
      decode v = .error .rsvdNz ∧ ∀ s : State, execute v s = .next (s.recordError .rsvdNz)

end Sys2Proof.Machine
end

