-- ==== Sys2Proof/Certificates/Slice0/Obligations.lean ====
section
/-! DEFINITION. The statements for the provers. Each docstring names the rules of spec/ it formalises. A next state
written as a record update says the result and the frame at once: every field not named, the pending events and the
configuration among them, is unchanged. -/

open Sys2Proof Sys2Proof.Machine

/-! Reset and the system commands. -/

/-- R250: after reset every state element holds the value of the rule's table, in every configuration; the machine's
reset state is that state in one configuration. A read of each register of R32 then returns the reset value of that rule's
table, CMD and OUT 0. -/
def Obligations.ResetLeavesTheValuesOfR250 : Prop :=
  State.reset = State.resetWith State.reset.config ∧
  ∀ c : Config,
    (State.resetWith c).arg = 0x00000000#32 ∧ (State.resetWith c).result = 0x00000000#32 ∧
    (State.resetWith c).crc = 0xFFFFFFFF#32 ∧
    (State.resetWith c).adlA = 1#16 ∧ (State.resetWith c).adlB = 0#16 ∧ (State.resetWith c).adler = 0x00000001#32 ∧
    (State.resetWith c).dec = 0x00000000#32 ∧
    (State.resetWith c).zact = false ∧ (State.resetWith c).zrem = 0#32 ∧ (State.resetWith c).zblk = 0#16 ∧
    (State.resetWith c).zfin = false ∧ (State.resetWith c).zdone = false ∧
    (State.resetWith c).outq = [] ∧
    (State.resetWith c).err = false ∧ (State.resetWith c).emult = false ∧ (State.resetWith c).ecode = 0#4 ∧
    (State.resetWith c).config = c ∧
    (State.resetWith c).zstat = 0x00000000#32 ∧ (State.resetWith c).status = BitVec.ofNat 32 c.outqDepth <<< 16 ∧
    ∀ r : Reg, (readReg r (State.resetWith c)).1 =
      match r with
      | .cmd => 0x00000000#32
      | .arg => 0x00000000#32
      | .result => 0x00000000#32
      | .crc => 0xFFFFFFFF#32
      | .adler => 0x00000001#32
      | .dec => 0x00000000#32
      | .zrem => 0x00000000#32
      | .zstat => 0x00000000#32
      | .status => BitVec.ofNat 32 c.outqDepth <<< 16
      | .out => 0x00000000#32

/-- R250, R251, R202: the reset input gives every element its reset value from any state, and SRESET, whose only word is
0x0F000000, has exactly that effect. The host's pending events and the configuration are outside the block (log entries
1 and 11). -/
def Obligations.SresetIsTheResetInput : Prop :=
  HasOneWord .sreset 0x0F000000#32 ∧
  (∀ s : State, react .reset s =
    .next { State.resetWith s.config with pending := s.pending, readData := s.readData }) ∧
  ∀ s : State, s.QueueFits →
    exec .sreset s = .next { State.resetWith s.config with pending := s.pending, readData := s.readData }

/-- R200: NOP, the word 0x00000000 alone, changes nothing. -/
def Obligations.NopChangesNothing : Prop :=
  HasOneWord .nop 0x00000000#32 ∧ ∀ s : State, s.QueueFits → exec .nop s = .next s

/-- R201: CLRERR clears ERR, EMULT and ECODE and touches no other state. -/
def Obligations.ClrerrClearsTheErrorState : Prop :=
  HasOneWord .clrerr 0x01000000#32 ∧
  ∀ s : State, s.QueueFits → exec .clrerr s = .next { s with err := false, emult := false, ecode := 0#4 }

/-! The CRC-32 lookup engine. -/

/-- R110: the ROM's 256 entries are those the rule prints, and each is eight steps of the rule's loop from its index. -/
def Obligations.CrcTableHoldsThePrintedEntries : Prop :=
  crcListing.length = 256 ∧
  (∀ n : Byte, crcListing[n.toNat]? = some (crcTable n)) ∧
  ∀ n : Byte, crcTable n =
    (fun c : Word => if c.getLsbD 0 = true then 0xEDB88320#32 ^^^ (c >>> 1) else c >>> 1)^[8] (n.setWidth 32)

/-- R111: CRC.INIT sets CRC to 0xFFFFFFFF in every framer state and touches nothing else. -/
def Obligations.CrcInitSetsTheAccumulator : Prop :=
  HasOneWord .crcInit 0x10000000#32 ∧
  ∀ s : State, s.QueueFits → exec .crcInit s = .next { s with crc := 0xFFFFFFFF#32 }

/-- R112: CRC.BYTE b replaces CRC by `(x >> 8) ^ T[x[7:0]]` for `x = CRC ^ zext_32(b)`, which equals
`(CRC >> 8) ^ T[(CRC ^ b)[7:0]]`, and touches nothing else. -/
def Obligations.CrcByteFeedsOneByte : Prop :=
  HasByteWords .crcByte 0x11000000#32 ∧
  ∀ (s : State) (b : Byte), s.QueueFits →
    exec (.crcByte b) s = .next { s with
      crc := ((s.crc ^^^ b.setWidth 32) >>> 8) ^^^ crcTable ((s.crc ^^^ b.setWidth 32).extractLsb' 0 8) } ∧
    exec (.crcByte b) s = .next { s with crc := (s.crc >>> 8) ^^^ crcTable (s.crc.extractLsb' 0 8 ^^^ b) }

/-- R113: CRC.FINAL writes `CRC ^ 0xFFFFFFFF` to RESULT and leaves CRC as it was. -/
def Obligations.CrcFinalWritesResult : Prop :=
  HasOneWord .crcFinal 0x12000000#32 ∧
  ∀ s : State, s.QueueFits → exec .crcFinal s = .next { s with result := s.crc ^^^ 0xFFFFFFFF#32 }

/-- R114: CRC.LOOKUP i writes `T[i]` to RESULT for every index and touches nothing else. -/
def Obligations.CrcLookupReadsTheTable : Prop :=
  HasByteWords .crcLookup 0x13000000#32 ∧
  ∀ (s : State) (i : Byte), s.QueueFits → exec (.crcLookup i) s = .next { s with result := crcTable i }

/-- R115: CRC.INIT, CRC.BYTE of each byte of a sequence, CRC.FINAL, issued by the host, leave RESULT = crc32 of the
sequence, the document's function; crc32 of the empty sequence is 0, and of "123456789" is 0xCBF43926. -/
def Obligations.CrcCommandsComputeCrc32 : Prop :=
  (∀ (d : List Byte) (s : State), s.QueueFits →
    reactAll ((Pseudo.crcOf d).expand s.config) s =
      .next { s with crc := docCrc32 d ^^^ 0xFFFFFFFF#32, result := docCrc32 d }) ∧
  docCrc32 [] = 0x00000000#32 ∧
  docCrc32 [0x31#8, 0x32#8, 0x33#8, 0x34#8, 0x35#8, 0x36#8, 0x37#8, 0x38#8, 0x39#8] = 0xCBF43926#32

/-- From R110 and R112: one CRC.BYTE is eight steps of the polynomial division of the accumulator itself, so the
table-driven `crc32` is the bit-serial division by the reflected polynomial, for every byte sequence. -/
def Obligations.TableCrcIsBitSerialCrc : Prop :=
  (∀ (c : Word) (b : Byte), crcUpdate c b = crcSteps 8 (c ^^^ b.setWidth 32)) ∧
  ∀ d : List Byte, docCrc32 d = bitSerialCrc32 d

/-! The Adler-32 accumulator. -/

/-- R130: ADL.INIT sets the sums to 1 and 0 while no stream is open, and only records ADL_BUSY (code 4) while one is. -/
def Obligations.AdlInitStartsTheSums : Prop :=
  HasOneWord .adlInit 0x20000000#32 ∧
  (∀ s : State, s.QueueFits → s.zact = false → exec .adlInit s = .next { s with adlA := 1#16, adlB := 0#16 }) ∧
  ∀ s : State, s.zact = true → exec .adlInit s = .next (s.recordError .adlBusy)

/-- R131: ADL.BYTE b sets `ADL_A` to `(ADL_A + b) mod 65521` and `ADL_B` to `(ADL_B + the new ADL_A) mod 65521` while no
stream is open, and only records ADL_BUSY while one is. -/
def Obligations.AdlByteFeedsOneByte : Prop :=
  HasByteWords .adlByte 0x21000000#32 ∧
  (∀ (s : State) (b : Byte), s.QueueFits → s.zact = false →
    exec (.adlByte b) s = .next { s with
      adlA := BitVec.ofNat 16 ((s.adlA.toNat + b.toNat) % 65521)
      adlB := BitVec.ofNat 16 ((s.adlB.toNat + (s.adlA.toNat + b.toNat) % 65521) % 65521) }) ∧
  ∀ (s : State) (b : Byte), s.zact = true → exec (.adlByte b) s = .next (s.recordError .adlBusy)

/-- R132: ADL.FINAL writes `(ADL_B << 16) | ADL_A` to RESULT, whether or not a stream is open, and leaves the sums as
they were. -/
def Obligations.AdlFinalWritesResult : Prop :=
  HasOneWord .adlFinal 0x22000000#32 ∧
  ∀ s : State, s.QueueFits →
    exec .adlFinal s = .next { s with result := s.adlB.setWidth 32 <<< 16 ||| s.adlA.setWidth 32 }

/-- R133: with both sums in 0..65520, one update adds below 2^17, needs at most one subtraction of 65521 for each sum,
and keeps both in 0..65520; 65521 is the largest prime below 2^16. -/
def Obligations.AdlerUpdateIsExact : Prop :=
  (∀ (s : State) (b : Byte), s.AdlerReduced →
    (s.adlerUpdate b).AdlerReduced ∧
    s.adlA.toNat + b.toNat ≤ 65775 ∧ s.adlB.toNat + (s.adlerUpdate b).adlA.toNat ≤ 131040 ∧
    ((s.adlerUpdate b).adlA.toNat = s.adlA.toNat + b.toNat ∨
      (s.adlerUpdate b).adlA.toNat + 65521 = s.adlA.toNat + b.toNat) ∧
    ((s.adlerUpdate b).adlB.toNat = s.adlB.toNat + (s.adlerUpdate b).adlA.toNat ∨
      (s.adlerUpdate b).adlB.toNat + 65521 = s.adlB.toNat + (s.adlerUpdate b).adlA.toNat)) ∧
  Nat.Prime 65521 ∧ ∀ p : Nat, 65521 < p → p < 65536 → ¬ Nat.Prime p

/-- R134: ADL.INIT, ADL.BYTE of each byte of a sequence, ADL.FINAL, issued while no stream is open, leave RESULT =
adler32 of the sequence; adler32 of the empty sequence is 1, and of "Wikipedia" is 0x11E60398. -/
def Obligations.AdlerCommandsComputeAdler32 : Prop :=
  (∀ (d : List Byte) (s : State), s.QueueFits → s.zact = false →
    reactAll ((Pseudo.adlOf d).expand s.config) s =
      .next { s with
        adlA := BitVec.ofNat 16 (docAdlerSums d).1
        adlB := BitVec.ofNat 16 (docAdlerSums d).2
        result := docAdler32 d }) ∧
  docAdler32 [] = 1#32 ∧
  docAdler32 [0x57#8, 0x69#8, 0x6B#8, 0x69#8, 0x70#8, 0x65#8, 0x64#8, 0x69#8, 0x61#8] = 0x11E60398#32

/-! The big-endian codec. -/

/-- R151: BE.ENCA pushes ARG, most significant byte first, in every framer state; with no room for 4 bytes it pushes
nothing and records OUT_OVF. -/
def Obligations.BeEncaPushesArg : Prop :=
  HasOneWord .beEnca 0x30000000#32 ∧
  (∀ s : State, s.outq.length + 4 ≤ s.config.outqDepth →
    exec .beEnca s = .next { s with outq := s.outq ++ [s.arg.extractLsb' 24 8, s.arg.extractLsb' 16 8,
      s.arg.extractLsb' 8 8, s.arg.extractLsb' 0 8] }) ∧
  ∀ s : State, s.config.outqDepth < s.outq.length + 4 → exec .beEnca s = .next (s.recordError .outOvf)

/-- R152: BE.ENCR pushes RESULT, most significant byte first, in every framer state; with no room for 4 bytes it pushes
nothing and records OUT_OVF. -/
def Obligations.BeEncrPushesResult : Prop :=
  HasOneWord .beEncr 0x31000000#32 ∧
  (∀ s : State, s.outq.length + 4 ≤ s.config.outqDepth →
    exec .beEncr s = .next { s with outq := s.outq ++ [s.result.extractLsb' 24 8, s.result.extractLsb' 16 8,
      s.result.extractLsb' 8 8, s.result.extractLsb' 0 8] }) ∧
  ∀ s : State, s.config.outqDepth < s.outq.length + 4 → exec .beEncr s = .next (s.recordError .outOvf)

/-- R153: BE.DEC b shifts DEC left by 8, losing its top byte, and puts b below. -/
def Obligations.BeDecShiftsOneByteIn : Prop :=
  HasByteWords .beDec 0x32000000#32 ∧
  ∀ (s : State) (b : Byte), s.QueueFits →
    exec (.beDec b) s = .next { s with dec := s.dec <<< 8 ||| b.setWidth 32 } ∧
    (s.dec <<< 8 ||| b.setWidth 32).toNat = s.dec.toNat % 2 ^ 24 * 256 + b.toNat

/-- R154: BE.DCLR clears DEC and touches nothing else. -/
def Obligations.BeDclrClearsDec : Prop :=
  HasOneWord .beDclr 0x33000000#32 ∧
  ∀ s : State, s.QueueFits → exec .beDclr s = .next { s with dec := 0x00000000#32 }

/-- R155: four BE.DEC of the bytes of `u32_be(v)` leave DEC = v from any prior DEC, and `W ARG, v` with BE.ENCA pushes
`u32_be(v)`. -/
def Obligations.CodecEncodesAndDecodes : Prop :=
  (∀ (v : Word) (s : State), s.QueueFits →
    reactAll ((Pseudo.beDecw v).expand s.config) s = .next { s with dec := v }) ∧
  ∀ (v : Word) (s : State), s.outq.length + 4 ≤ s.config.outqDepth →
    reactAll ((Pseudo.enc v).expand s.config) s = .next { s with arg := v, outq := s.outq ++ u32be v }

/-! The zlib stored-block framer. -/

/-- R177, with R173 and R174: `BlockHeader(r)` for 1 ≤ r ≤ 2^32 - 1 pushes H (1 on the last block, else 0), LEN =
min(r, 65535) and NLEN = its one's complement, low byte first, and sets ZBLK and ZFIN. -/
def Obligations.BlockHeaderOpensABlock : Prop :=
  ∀ (s : State) (r : Word), 1 ≤ r.toNat →
    s.blockHeader r = { s with
      outq := s.outq ++
        [BitVec.ofNat 8 (if r.toNat ≤ 65535 then 1 else 0),
          BitVec.ofNat 8 (min r.toNat 65535 % 256), BitVec.ofNat 8 (min r.toNat 65535 / 256),
          BitVec.ofNat 8 ((65535 - min r.toNat 65535) % 256), BitVec.ofNat 8 ((65535 - min r.toNat 65535) / 256)]
      zblk := BitVec.ofNat 16 (min r.toNat 65535)
      zfin := decide (r.toNat ≤ 65535) }

/-- R178: Z.START with a stream open only records ZSEQ. With none open and ARG = 0 it emits the whole 11-byte stream and
sets ZDONE; with ARG > 0 it emits the header and the first block's header and opens the stream. Where its 11 or 7 bytes
do not fit it only records OUT_OVF. -/
def Obligations.ZStartOpensAStream : Prop :=
  HasOneWord .zStart 0x40000000#32 ∧
  (∀ s : State, s.zact = true → exec .zStart s = .next (s.recordError .zseq)) ∧
  (∀ s : State, s.zact = false → s.arg = 0#32 → s.outq.length + 11 ≤ s.config.outqDepth →
    exec .zStart s = .next { s with
      adlA := 1#16, adlB := 0#16
      outq := s.outq ++ [0x78#8, 0x01#8, 0x01#8, 0x00#8, 0x00#8, 0xFF#8, 0xFF#8, 0x00#8, 0x00#8, 0x00#8, 0x01#8]
      zdone := true }) ∧
  (∀ s : State, s.zact = false → s.arg ≠ 0#32 → s.outq.length + 7 ≤ s.config.outqDepth →
    exec .zStart s = .next { s with
      adlA := 1#16, adlB := 0#16
      outq := s.outq ++ 0x78#8 :: 0x01#8 :: blockHeaderBytes (blockIsLast s.arg) (blockLength s.arg)
      zblk := blockLength s.arg, zfin := blockIsLast s.arg
      zdone := false, zrem := s.arg, zact := true }) ∧
  (∀ s : State, s.zact = false → s.arg = 0#32 → s.config.outqDepth < s.outq.length + 11 →
    exec .zStart s = .next (s.recordError .outOvf)) ∧
  ∀ s : State, s.zact = false → s.arg ≠ 0#32 → s.config.outqDepth < s.outq.length + 7 →
    exec .zStart s = .next (s.recordError .outOvf)

/-- R179: Z.DATA b with no stream open only records ZSEQ. With one open it pushes b, updates the sums and counts down;
at the end of a block it opens the next (6 bytes pushed), and at the end of the stream it emits the trailer with the
updated sums (5 bytes) and closes the stream. Where the 1, 5 or 6 bytes do not fit it only records OUT_OVF. ZBLK ≥ 1
while a stream is open is the invariant of R28. -/
def Obligations.ZDataFeedsOneByte : Prop :=
  HasByteWords .zData 0x41000000#32 ∧
  (∀ (s : State) (b : Byte), s.zact = false → exec (.zData b) s = .next (s.recordError .zseq)) ∧
  (∀ (s : State) (b : Byte), s.zact = true → 1 < s.zblk.toNat → s.outq.length + 1 ≤ s.config.outqDepth →
    exec (.zData b) s = .next { s with
      outq := s.outq ++ [b]
      adlA := adlerA s.adlA b, adlB := adlerB s.adlB (adlerA s.adlA b)
      zrem := s.zrem - 1#32, zblk := s.zblk - 1#16 }) ∧
  (∀ (s : State) (b : Byte), s.zact = true → s.zblk.toNat = 1 → s.zrem.toNat = 1 →
    s.outq.length + 5 ≤ s.config.outqDepth →
    exec (.zData b) s = .next { s with
      outq := s.outq ++ b :: u32be (adlerWord (adlerA s.adlA b) (adlerB s.adlB (adlerA s.adlA b)))
      adlA := adlerA s.adlA b, adlB := adlerB s.adlB (adlerA s.adlA b)
      zrem := 0#32, zblk := 0#16, zact := false, zfin := false, zdone := true }) ∧
  (∀ (s : State) (b : Byte), s.zact = true → s.zblk.toNat = 1 → 1 < s.zrem.toNat →
    s.outq.length + 6 ≤ s.config.outqDepth →
    exec (.zData b) s = .next { s with
      outq := s.outq ++ b :: blockHeaderBytes (blockIsLast (s.zrem - 1#32)) (blockLength (s.zrem - 1#32))
      adlA := adlerA s.adlA b, adlB := adlerB s.adlB (adlerA s.adlA b)
      zrem := s.zrem - 1#32
      zblk := blockLength (s.zrem - 1#32), zfin := blockIsLast (s.zrem - 1#32) }) ∧
  ∀ (s : State) (b : Byte), s.zact = true →
    (1 < s.zblk.toNat ∧ s.config.outqDepth < s.outq.length + 1 ∨
      s.zblk.toNat = 1 ∧ s.zrem.toNat = 1 ∧ s.config.outqDepth < s.outq.length + 5 ∨
      s.zblk.toNat = 1 ∧ 1 < s.zrem.toNat ∧ s.config.outqDepth < s.outq.length + 6) →
    exec (.zData b) s = .next (s.recordError .outOvf)

/-- R180: Z.ABORT clears all framer state in every state; the queue and the sums stay. -/
def Obligations.ZAbortAbandonsTheStream : Prop :=
  HasOneWord .zAbort 0x4F000000#32 ∧
  ∀ s : State, s.QueueFits →
    exec .zAbort s = .next { s with zact := false, zrem := 0#32, zblk := 0#16, zfin := false, zdone := false }

/-- R181: with ARG = N, Z.START and then Z.DATA of the N bytes of d, with no error and any events that are no framer
commands between, push exactly the zlib stream of d, of length N + 6 + 5·max(1, ceil(N / 65535)); after the last the
stream is closed and done, and ADLER = adler32(d). -/
def Obligations.FramerEmitsTheZlibStream : Prop :=
  ∀ (d out₁ out₂ : List Byte) (s₀ s t : State),
    d.length ≤ 2 ^ 32 - 1 → s₀.arg = BitVec.ofNat 32 d.length →
    RunsPushing .zStart s₀ out₁ s → FramerFeed s d out₂ t →
    out₁ ++ out₂ = zlibStream d ∧
    (out₁ ++ out₂).length = d.length + 6 + 5 * max 1 ((d.length + 65534) / 65535) ∧
    t.zact = false ∧ t.zdone = true ∧ t.adler = docAdler32 d

/-- From R178, R179, R182, R184 and R255: for every byte sequence of at most 2^32 - 1 bytes, in every run whose OUTQ is
empty before each framer command, with any events between that neither are framer commands nor reset the block, no framer
command raises an error and the stream is closed and done after the last; such a run is one the stream law (R181) speaks
of. By OUT reads (R42) a host can always make such a run. -/
def Obligations.DrainedStreamAlwaysCompletes : Prop :=
  ∀ (d : List Byte) (s₀ : State), d.length ≤ 2 ^ 32 - 1 → s₀.arg = BitVec.ofNat 32 d.length →
    s₀.zact = false → s₀.outq = [] →
    (∀ (s t : State) (errors : List (Option ErrorCode)),
      exec .zStart s₀ = .next s → DrainedFeed s d errors t →
      commandError .zStart s₀ = none ∧ (∀ e ∈ errors, e = none) ∧ t.zact = false ∧ t.zdone = true ∧
      ∃ out₁ out₂ : List Byte, RunsPushing .zStart s₀ out₁ s ∧ FramerFeed s d out₂ t) ∧
    ∃ (s t : State) (errors : List (Option ErrorCode)), exec .zStart s₀ = .next s ∧ DrainedFeed s d errors t

/-- R172: the blocks of a sequence of N > 0 bytes are nb = ceil(N / 65535) blocks, every one but the last of 65535
bytes, the last of N - 65535·(nb - 1), which is 1 to 65535; together they are the sequence. For N = 0 there is one block
of length 0. -/
def Obligations.BlocksAreSplitGreedily : Prop :=
  (∀ d : List Byte, d ≠ [] →
    (splitBlocks d).map List.length =
      List.replicate ((d.length + 65534) / 65535 - 1) 65535 ++ [d.length - 65535 * ((d.length + 65534) / 65535 - 1)] ∧
    1 ≤ d.length - 65535 * ((d.length + 65534) / 65535 - 1) ∧
    d.length - 65535 * ((d.length + 65534) / 65535 - 1) ≤ 65535 ∧
    (splitBlocks d).flatten = d) ∧
  splitBlocks [] = [[]]

/-- From R170 to R176 and R181's round trip: a reader of stored-block streams that checks NLEN and the trailer gets back
exactly the framed data. -/
def Obligations.ZlibStreamReadsBack : Prop :=
  ∀ d : List Byte, readStream (zlibStream d) = some d

/-- R182: CRC.*, ADL.FINAL, BE.DEC, BE.DCLR, NOP and CLRERR run in every framer state and touch neither the framer nor
OUTQ; while a stream is open only ADL.INIT, ADL.BYTE and Z.START are turned away for it. -/
def Obligations.OtherCommandsLeaveTheFramerAlone : Prop :=
  (∀ (i : Instr) (s : State),
    ((∃ b, i = .crcByte b ∨ i = .crcLookup b ∨ i = .beDec b) ∨
      i ∈ [Instr.crcInit, .crcFinal, .adlFinal, .beDclr, .nop, .clrerr]) → s.QueueFits →
    ∃ t, exec i s = .next t ∧ commandError i s = none ∧ t.zact = s.zact ∧ t.zrem = s.zrem ∧ t.zblk = s.zblk ∧
      t.zfin = s.zfin ∧ t.zdone = s.zdone ∧ t.outq = s.outq) ∧
  ∀ (i : Instr) (s : State), s.zact = true →
    (stateCheck i s ≠ none ↔ i = .adlInit ∨ (∃ b, i = .adlByte b) ∨ i = .zStart)

/-- R184, R94: where a command raises no error it appends exactly k bytes to OUTQ, for the k of the rule's table (SRESET,
which empties OUTQ, apart), and k ≤ 11. ZBLK ≥ 1 and ZREM ≥ 1 while a stream is open is the invariant of R28. -/
def Obligations.PushCountsAreExact : Prop :=
  ∀ (i : Instr) (s t : State), s.FramerOk → commandError i s = none → i ≠ .sreset → exec i s = .next t →
    ∃ out : List Byte, t.outq = s.outq ++ out ∧ out.length ≤ 11 ∧
      (i = .beEnca ∨ i = .beEncr → out.length = 4) ∧
      (i = .zStart → s.arg = 0#32 → out.length = 11) ∧
      (i = .zStart → s.arg ≠ 0#32 → out.length = 7) ∧
      (∀ b, i = .zData b → 1 < s.zblk.toNat → out.length = 1) ∧
      (∀ b, i = .zData b → s.zblk.toNat = 1 → s.zrem.toNat = 1 → out.length = 5) ∧
      (∀ b, i = .zData b → s.zblk.toNat = 1 → 1 < s.zrem.toNat → out.length = 6) ∧
      (i ≠ .beEnca → i ≠ .beEncr → i ≠ .zStart → (∀ b, i ≠ .zData b) → out = [])

/-- From R255: with OUTCNT ≤ OUTQ_DEPTH - 11 no command raises OUT_OVF. -/
def Obligations.DrainingToElevenFreeSuffices : Prop :=
  ∀ (i : Instr) (s : State), s.outq.length + 11 ≤ s.config.outqDepth → commandError i s ≠ some .outOvf

/-! Decoding and encoding. -/

/-- R93, R95: every word either decodes to exactly one command, whose OPC and operand are the word's, or is rejected as
exactly one of ILLEGAL_OP and RSVD_NZ, by the rule's conditions in the rule's order. -/
def Obligations.DecodeIsTotalInTheOrderOfR93 : Prop :=
  ∀ w : Word,
    (decode w = .error .illegalOp ↔ opcOf w ∉ definedOpcs) ∧
    (decode w = .error .rsvdNz ↔
      opcOf w ∈ definedOpcs ∧ (rsvdOf w ≠ 0#16 ∨ (opcOf w ∉ imm8Opcs ∧ imm8Of w ≠ 0#8))) ∧
    ((∃ i, decode w = .ok i) ↔
      opcOf w ∈ definedOpcs ∧ rsvdOf w = 0#16 ∧ (opcOf w ∈ imm8Opcs ∨ imm8Of w = 0#8)) ∧
    ∀ i, decode w = .ok i → i.mnemonic.opc = opcOf w ∧ i.imm8 = imm8Of w

/-- R92: a word decodes to a command exactly when it agrees with one row of the opcode map on the row's mask; the row is
that of the command's mnemonic, and no word agrees with two rows. -/
def Obligations.DecodeFollowsTheOpcodeMap : Prop :=
  (∀ (w : Word) (m : Mnemonic),
    (∃ i, decode w = .ok i ∧ i.mnemonic = m) ↔ ∃ r ∈ opcodeMap, r.mnemonic = m ∧ r.matchesWord w = true) ∧
  (∀ w : Word, ∀ r ∈ opcodeMap, ∀ q ∈ opcodeMap, r.matchesWord w = true → q.matchesWord w = true → r = q) ∧
  ((List.range 256).filter fun n => (instrOf (BitVec.ofNat 8 n) 0#8).isNone).length = 239

/-- Decoding the encoding of any command gives it back, with its operand at every value (R90 to R93). -/
def Obligations.DecodeInvertsEncode : Prop :=
  ∀ i : Instr, decode (encode i) = .ok i

/-- A word that decodes to a command is the encoding of that command: each command has one word (R90, R93). -/
def Obligations.EncodeInvertsDecode : Prop :=
  ∀ (w : Word) (i : Instr), decode w = .ok i → encode i = w

/-- Words written out from R90 and R92, one of each unit, decode to the commands they stand for; words R95 and R223 name
are rejected (R97's examples among them). -/
def Obligations.WrittenWordsDecode : Prop :=
  decode 0b00000000000000000000000000000000#32 = .ok .nop ∧
  decode 0b00010001000000000000000001001001#32 = .ok (.crcByte 0x49#8) ∧
  decode 0b00100001000000000000000001010111#32 = .ok (.adlByte 0x57#8) ∧
  decode 0b00110010000000000000000000010010#32 = .ok (.beDec 0x12#8) ∧
  decode 0b01000000000000000000000000000000#32 = .ok .zStart ∧
  decode 0b01000001000000000000000011111111#32 = .ok (.zData 0xFF#8) ∧
  decode 0x00000001#32 = .error .rsvdNz ∧ decode 0x41000100#32 = .error .rsvdNz ∧
  decode 0x50000000#32 = .error .illegalOp

/-- R97: a well-formed written command assembles to the single word `(OPC << 24) | b`, which decodes to that command; an
ill-formed one (an operand out of range, missing, or not taken) produces no word. -/
def Obligations.AssemblyProducesTheCommandWord : Prop :=
  (∀ l : SourceLine, l.wellFormed = true →
    assemble l = some (l.mnemonic.opc.setWidth 32 <<< 24 ||| (operandByte l).setWidth 32) ∧
    ∃ w i, assemble l = some w ∧ decode w = .ok i ∧ i.mnemonic = l.mnemonic ∧
      ∀ o, l.operand = some o → i.imm8.toNat = o.value) ∧
  ∀ l : SourceLine, l.wellFormed = false → assemble l = none

/-! Errors. -/

/-- R222, R221, R226: recording an error sets ERR and stores the code when ERR was 0, sets EMULT alone when ERR was 1,
and changes nothing else. -/
def Obligations.ErrorRecordingKeepsTheFirstCode : Prop :=
  (∀ (s : State) (c : ErrorCode), s.err = false → s.recordError c = { s with err := true, ecode := c.code }) ∧
  (∀ (s : State) (c : ErrorCode), s.err = true → s.recordError c = { s with emult := true }) ∧
  ErrorCode.illegalOp.code = 1#4 ∧ ErrorCode.rsvdNz.code = 2#4 ∧ ErrorCode.zseq.code = 3#4 ∧
  ErrorCode.adlBusy.code = 4#4 ∧ ErrorCode.outOvf.code = 5#4 ∧ ErrorCode.bus.code = 6#4

/-- R223: a write in the window raises the first error its checks meet, in the order BUS, ILLEGAL_OP, RSVD_NZ, the state
check, OUT_OVF, and only records it (R226); a command word that passes them all is executed. A read's one check is BUS. -/
def Obligations.FirstFailedCheckIsTheErrorRaised : Prop :=
  ∀ (s : State) (off size : Nat) (v : Word), off < 64 →
    (¬(size = 4 ∧ off % 4 = 0 ∧ off ≤ 0x24) ∨ (off ≠ 0x00 ∧ off ≠ 0x04) →
      react (.write (s.config.base + off) size v) s = .next (s.recordError .bus)) ∧
    (¬(size = 4 ∧ off % 4 = 0 ∧ off ≤ 0x24) →
      react (.read (s.config.base + off) size) s =
        .next { s.recordError .bus with readData := some 0x00000000#32 }) ∧
    (opcOf v ∉ definedOpcs → react (.write (s.config.base + 0x00) 4 v) s = .next (s.recordError .illegalOp)) ∧
    (opcOf v ∈ definedOpcs → (rsvdOf v ≠ 0#16 ∨ (opcOf v ∉ imm8Opcs ∧ imm8Of v ≠ 0#8)) →
      react (.write (s.config.base + 0x00) 4 v) s = .next (s.recordError .rsvdNz)) ∧
    ∀ i, decode v = .ok i →
      ((i = .zStart ∧ s.zact = true) ∨ ((∃ b, i = .zData b) ∧ s.zact = false) →
        react (.write (s.config.base + 0x00) 4 v) s = .next (s.recordError .zseq)) ∧
      ((i = .adlInit ∨ ∃ b, i = .adlByte b) → s.zact = true →
        react (.write (s.config.base + 0x00) 4 v) s = .next (s.recordError .adlBusy)) ∧
      (((i = .zStart ∨ i = .adlInit ∨ ∃ b, i = .adlByte b) → s.zact = false) →
        ((∃ b, i = .zData b) → s.zact = true) →
        (s.config.outqDepth < s.outq.length + pushCount i s →
          react (.write (s.config.base + 0x00) 4 v) s = .next (s.recordError .outOvf)) ∧
        (s.outq.length + pushCount i s ≤ s.config.outqDepth →
          react (.write (s.config.base + 0x00) 4 v) s = exec i s ∧ commandError i s = none))

/-- R222: the error record is sticky. While ERR = 1 no step clears ERR or EMULT or changes ECODE, but for the reset input
and the command words of CLRERR and SRESET. -/
def Obligations.ErrorRecordIsSticky : Prop :=
  ∀ s t : State, step s = .next t → s.err = true →
    (t.err = true ∧ t.ecode = s.ecode ∧ (s.emult = true → t.emult = true)) ∨
    ∃ rest, s.pending = .reset :: rest ∨
      s.pending = .write (s.config.base + 0x00) 4 0x01000000#32 :: rest ∨
      s.pending = .write (s.config.base + 0x00) 4 0x0F000000#32 :: rest

/-- R228: an error does not block the block. Whatever the error state, every event but a read of STATUS returns the same
value and has the same effect on every other part of the state; and a command that fails does nothing but record its error. -/
def Obligations.ErrorStateBlocksNothing : Prop :=
  (∀ (s s' : State) (e : HostEvent) (err emult : Bool) (ecode : BitVec 4),
    e ≠ .read (s.config.base + 0x20) 4 → react e s = .next s' →
    ∃ t, react e { s with err := err, emult := emult, ecode := ecode } = .next t ∧
      { t with err := s'.err, emult := s'.emult, ecode := s'.ecode } = s') ∧
  ∀ (i : Instr) (s : State) (c : ErrorCode), commandError i s = some c →
    exec i s = .next (s.recordError c)

/-- R220: nothing stops the block. Every step answers a next state, from every state. -/
def Obligations.NothingStopsTheBlock : Prop :=
  ∀ s : State, ∃ t, step s = .next t

/-! The register window. -/

/-- R61, R65, R42: a well-formed write to CMD executes the word and to ARG sets it; a well-formed read returns the
register's value and changes nothing else, but for OUT, which pops the head byte of a non-empty OUTQ. -/
def Obligations.RegisterAccessesActAsR61Says : Prop :=
  ∀ (s : State) (v : Word),
    react (.write (s.config.base + 0x00) 4 v) s = execute v s ∧
    react (.write (s.config.base + 0x04) 4 v) s = .next { s with arg := v } ∧
    react (.read (s.config.base + 0x00) 4) s = .next { s with readData := some 0x00000000#32 } ∧
    react (.read (s.config.base + 0x04) 4) s = .next { s with readData := some s.arg } ∧
    react (.read (s.config.base + 0x08) 4) s = .next { s with readData := some s.result } ∧
    react (.read (s.config.base + 0x0C) 4) s = .next { s with readData := some s.crc } ∧
    react (.read (s.config.base + 0x10) 4) s = .next { s with
      readData := some (s.adlB.setWidth 32 <<< 16 ||| s.adlA.setWidth 32) } ∧
    react (.read (s.config.base + 0x14) 4) s = .next { s with readData := some s.dec } ∧
    react (.read (s.config.base + 0x18) 4) s = .next { s with readData := some s.zrem } ∧
    react (.read (s.config.base + 0x1C) 4) s = .next { s with readData := some s.zstat } ∧
    react (.read (s.config.base + 0x20) 4) s = .next { s with readData := some s.status } ∧
    (s.outq = [] → react (.read (s.config.base + 0x24) 4) s = .next { s with readData := some 0x00000000#32 }) ∧
    ∀ b rest, s.outq = b :: rest →
      react (.read (s.config.base + 0x24) 4) s =
        .next { s with outq := rest, readData := some (0x100#32 ||| b.setWidth 32) }

/-- R62, R63, R64: an access with size ≠ 4 or a misaligned offset, an access to 0x28..0x3C, and a write to a read-only
register only record BUS (a read then returns 0 and pops nothing); an access outside the window changes nothing (DEDUCED,
log entry 6, and which accesses are outside is log entry 7). -/
def Obligations.RefusedAccessesOnlyRecordBus : Prop :=
  (∀ (s : State) (off size : Nat) (v : Word), off < 64 → (size ≠ 4 ∨ off % 4 ≠ 0 ∨ 0x28 ≤ off) →
    react (.write (s.config.base + off) size v) s = .next (s.recordError .bus) ∧
    react (.read (s.config.base + off) size) s = .next { s.recordError .bus with readData := some 0x00000000#32 }) ∧
  (∀ (s : State) (off : Nat) (v : Word), 0x08 ≤ off → off ≤ 0x24 → off % 4 = 0 →
    react (.write (s.config.base + off) 4 v) s = .next (s.recordError .bus)) ∧
  ∀ (s : State) (addr size : Nat) (v : Word), (addr < s.config.base ∨ s.config.base + 64 ≤ addr) →
    react (.write addr size v) s = .next s ∧ react (.read addr size) s = .next s

/-- R66: every well-formed read but that of OUT is idempotent: it changes nothing but the value returned, and a second
such read returns the same value. -/
def Obligations.ReadsAreIdempotent : Prop :=
  ∀ (s : State) (off : Nat), off % 4 = 0 → off < 0x24 →
    ∃ v, react (.read (s.config.base + off) 4) s = .next { s with readData := some v } ∧
      react (.read (s.config.base + off) 4) { s with readData := some v } = .next { s with readData := some v }

/-- R37, R40, R41, R43: the fields of ADLER, ZSTAT and STATUS stand at the bits the rules give, and every other bit is
0. OUTCNT is the length of a queue within its capacity (R29). -/
def Obligations.RegisterFieldsStandWhereTheRulesSay : Prop :=
  ∀ s : State, s.QueueFits →
    s.adler.extractLsb' 16 16 = s.adlB ∧ s.adler.extractLsb' 0 16 = s.adlA ∧
    s.zstat.extractLsb' 19 13 = 0#13 ∧ s.zstat.getLsbD 18 = s.zdone ∧ s.zstat.getLsbD 17 = s.zfin ∧
    s.zstat.getLsbD 16 = s.zact ∧ s.zstat.extractLsb' 0 16 = s.zblk ∧
    s.status.extractLsb' 24 8 = 0#8 ∧ (s.status.extractLsb' 16 8).toNat = s.config.outqDepth ∧
    (s.status.extractLsb' 8 8).toNat = s.outq.length ∧ s.status.extractLsb' 4 4 = s.ecode ∧
    s.status.extractLsb' 2 2 = 0#2 ∧ s.status.getLsbD 1 = s.emult ∧ s.status.getLsbD 0 = s.err

/-! The whole machine. -/

/-- R22, R67, R72, R264, with log entry 4: a step takes the host's next event. A command word that decodes runs as
`exec` of the command, a rejected word only records its error, and with nothing pending nothing changes. -/
def Obligations.StepRunsTheDecodedCommand : Prop :=
  (∀ (s : State) (w : Word) (i : Instr) (rest : List HostEvent),
    s.pending = .write (s.config.base + 0x00) 4 w :: rest → decode w = .ok i →
    step s = exec i { s with pending := rest, readData := none }) ∧
  (∀ (s : State) (w : Word) (e : DecodeError) (rest : List HostEvent),
    s.pending = .write (s.config.base + 0x00) 4 w :: rest → decode w = .error e →
    step s = .next (State.recordError { s with pending := rest, readData := none } (errorOfDecode e))) ∧
  (∀ (s : State) (e : HostEvent) (rest : List HostEvent), s.pending = e :: rest →
    step s = react e { s with pending := rest, readData := none }) ∧
  ∀ s : State, s.pending = [] → step s = .next s

/-- R21, R23 to R30: what each command may change. Only the commands the rules name write RESULT, CRC, the Adler sums,
DEC, the framer state and OUTQ; no command but SRESET writes ARG (log entry 17); the error state changes only where the
command raises an error, or is CLRERR or SRESET; none changes the configuration, the pending events or the value
returned. -/
def Obligations.CommandsWriteOnlyTheirOwnState : Prop :=
  ∀ (i : Instr) (s t : State), exec i s = .next t →
    (t.result ≠ s.result → i = .crcFinal ∨ (∃ n, i = .crcLookup n) ∨ i = .adlFinal ∨ i = .sreset) ∧
    (t.crc ≠ s.crc → i = .crcInit ∨ (∃ b, i = .crcByte b) ∨ i = .sreset) ∧
    (t.adlA ≠ s.adlA ∨ t.adlB ≠ s.adlB →
      i = .adlInit ∨ (∃ b, i = .adlByte b) ∨ i = .zStart ∨ (∃ b, i = .zData b) ∨ i = .sreset) ∧
    (t.dec ≠ s.dec → (∃ b, i = .beDec b) ∨ i = .beDclr ∨ i = .sreset) ∧
    (t.zact ≠ s.zact ∨ t.zrem ≠ s.zrem ∨ t.zblk ≠ s.zblk ∨ t.zfin ≠ s.zfin ∨ t.zdone ≠ s.zdone →
      i = .zStart ∨ (∃ b, i = .zData b) ∨ i = .zAbort ∨ i = .sreset) ∧
    (t.outq ≠ s.outq → i = .beEnca ∨ i = .beEncr ∨ i = .zStart ∨ (∃ b, i = .zData b) ∨ i = .sreset) ∧
    (t.arg ≠ s.arg → i = .sreset) ∧
    (t.err ≠ s.err ∨ t.emult ≠ s.emult ∨ t.ecode ≠ s.ecode →
      commandError i s ≠ none ∨ i = .clrerr ∨ i = .sreset) ∧
    t.config = s.config ∧ t.pending = s.pending ∧ t.readData = s.readData

/-- R250 with R26, R28, R29 and R30: the reset state meets every invariant, in every configuration (the error record's is
DEDUCED, log entry 13). -/
def Obligations.InvariantsHoldAfterReset : Prop :=
  State.reset.Inv ∧ ∀ c : Config, (State.resetWith c).Inv

/-- R26, R28, R29, R30: every step keeps the invariants of the block's state: the Adler sums are reduced, OUTQ is within
its capacity, the framer's counts and flags agree, and the error record is consistent (the last is DEDUCED, log entry 13).
No step changes the configuration (log entry 1). -/
def Obligations.EveryStepKeepsTheInvariants : Prop :=
  ∀ s t : State, s.Inv → step s = .next t → t.Inv ∧ t.config = s.config
end

