-- ==== Sys2Proof/Laws/Decode.lean ====
section
/-! SUPPORT. The fields of a command word (R90) and what the decoder answers, said once. -/

namespace Sys2Proof

/-- A word is its three fields (R90). -/
theorem word_eq_of_fields {v w : Word} (ho : opcOf v = opcOf w) (hr : rsvdOf v = rsvdOf w) (hi : imm8Of v = imm8Of w) :
    v = w := by
  have split (x : Word) : x.toNat = (opcOf x).toNat * 2 ^ 24 + (rsvdOf x).toNat * 2 ^ 8 + (imm8Of x).toNat := by
    simp only [opcOf, rsvdOf, imm8Of, BitVec.extractLsb'_toNat, Nat.shiftRight_eq_div_pow]
    have := x.isLt
    omega
  apply BitVec.eq_of_toNat_eq
  rw [split v, split w, ho, hr, hi]

theorem commandWord_toNat (opc b : Byte) : (commandWord opc b).toNat = opc.toNat * 2 ^ 24 + b.toNat := by
  have ho := opc.isLt
  have hb := b.isLt
  unfold commandWord
  rw [BitVec.toNat_or, BitVec.toNat_shiftLeft, BitVec.toNat_setWidth, BitVec.toNat_setWidth,
    Nat.mod_eq_of_lt (by omega : opc.toNat < 2 ^ 32), Nat.mod_eq_of_lt (by omega : b.toNat < 2 ^ 32),
    Nat.shiftLeft_eq, Nat.mod_eq_of_lt (by omega), Nat.mul_comm,
    ← Nat.two_pow_add_eq_or_of_lt (by omega : b.toNat < 2 ^ 24)]

@[simp] theorem opcOf_commandWord (opc b : Byte) : opcOf (commandWord opc b) = opc := by
  apply BitVec.eq_of_toNat_eq
  have ho := opc.isLt
  have hb := b.isLt
  simp only [opcOf, BitVec.extractLsb'_toNat, commandWord_toNat, Nat.shiftRight_eq_div_pow]
  omega

@[simp] theorem rsvdOf_commandWord (opc b : Byte) : rsvdOf (commandWord opc b) = 0#16 := by
  apply BitVec.eq_of_toNat_eq
  have ho := opc.isLt
  have hb := b.isLt
  simp only [rsvdOf, BitVec.extractLsb'_toNat, commandWord_toNat, Nat.shiftRight_eq_div_pow, BitVec.toNat_ofNat]
  omega

@[simp] theorem imm8Of_commandWord (opc b : Byte) : imm8Of (commandWord opc b) = b := by
  apply BitVec.eq_of_toNat_eq
  have ho := opc.isLt
  have hb := b.isLt
  simp only [imm8Of, BitVec.extractLsb'_toNat, commandWord_toNat, Nat.shiftRight_eq_div_pow]
  omega

/-- An accepted word has a defined OPC and clear reserved bits (R93). -/
theorem decode_ok_iff {w : Word} {i : Instr} :
    decode w = .ok i ↔ instrOf (opcOf w) (imm8Of w) = some i ∧ rsvdOf w = 0#16 ∧
      (opcTakesImm8 (opcOf w) = false → imm8Of w = 0#8) := by
  unfold decode
  split
  · next h => simp [h]
  · next j h =>
    by_cases hr : rsvdOf w = 0#16 <;> by_cases hi : opcTakesImm8 (opcOf w) = false ∧ imm8Of w ≠ 0#8
    · simp [h, hr, hi]
    · have hi' : opcTakesImm8 (opcOf w) = false → imm8Of w = 0#8 := fun a => by
        by_contra hne
        exact hi ⟨a, hne⟩
      simp only [h, hr, ne_eq, not_true_eq_false, if_false, hi, Except.ok.injEq, Option.some.injEq, true_and]
      exact ⟨fun e => ⟨e, hi'⟩, fun e => e.1⟩
    · simp [hr]
    · simp [hr]

/-- A word is rejected as ILLEGAL_OP exactly when its OPC is reserved (R95). -/
theorem decode_illegalOp_iff {w : Word} :
    decode w = .error .illegalOp ↔ instrOf (opcOf w) (imm8Of w) = none := by
  unfold decode
  split
  · next h => simp [h]
  · next j h => split <;> [skip; split] <;> simp [h]

/-- A word is rejected as RSVD_NZ exactly when its OPC is defined and a reserved bit is set (R95). -/
theorem decode_rsvdNz_iff {w : Word} :
    decode w = .error .rsvdNz ↔ instrOf (opcOf w) (imm8Of w) ≠ none ∧
      (rsvdOf w ≠ 0#16 ∨ (opcTakesImm8 (opcOf w) = false ∧ imm8Of w ≠ 0#8)) := by
  unfold decode
  split
  · next h => simp [h]
  · next j h =>
    by_cases hr : rsvdOf w = 0#16 <;> by_cases hi : opcTakesImm8 (opcOf w) = false ∧ imm8Of w ≠ 0#8 <;>
      simp [h, hr, hi]

end Sys2Proof
end

