-- ==== Sys2Proof/Laws/State.lean ====
section
/-! SUPPORT. What each named update of the state does to each field, so that no later proof unfolds a record update. -/

namespace Sys2Proof.Machine

namespace State

variable (s : State)

@[simp] theorem push_arg (b : Byte) : (s.push b).arg = s.arg := rfl
@[simp] theorem push_result (b : Byte) : (s.push b).result = s.result := rfl
@[simp] theorem push_crc (b : Byte) : (s.push b).crc = s.crc := rfl
@[simp] theorem push_adlA (b : Byte) : (s.push b).adlA = s.adlA := rfl
@[simp] theorem push_adlB (b : Byte) : (s.push b).adlB = s.adlB := rfl
@[simp] theorem push_dec (b : Byte) : (s.push b).dec = s.dec := rfl
@[simp] theorem push_zact (b : Byte) : (s.push b).zact = s.zact := rfl
@[simp] theorem push_zrem (b : Byte) : (s.push b).zrem = s.zrem := rfl
@[simp] theorem push_zblk (b : Byte) : (s.push b).zblk = s.zblk := rfl
@[simp] theorem push_zfin (b : Byte) : (s.push b).zfin = s.zfin := rfl
@[simp] theorem push_zdone (b : Byte) : (s.push b).zdone = s.zdone := rfl
@[simp] theorem push_outq (b : Byte) : (s.push b).outq = s.outq ++ [b] := rfl
@[simp] theorem push_err (b : Byte) : (s.push b).err = s.err := rfl
@[simp] theorem push_emult (b : Byte) : (s.push b).emult = s.emult := rfl
@[simp] theorem push_ecode (b : Byte) : (s.push b).ecode = s.ecode := rfl
@[simp] theorem push_config (b : Byte) : (s.push b).config = s.config := rfl
@[simp] theorem push_pending (b : Byte) : (s.push b).pending = s.pending := rfl
@[simp] theorem push_readData (b : Byte) : (s.push b).readData = s.readData := rfl

@[simp] theorem pushAll_arg (bs : List Byte) : (s.pushAll bs).arg = s.arg := rfl
@[simp] theorem pushAll_result (bs : List Byte) : (s.pushAll bs).result = s.result := rfl
@[simp] theorem pushAll_crc (bs : List Byte) : (s.pushAll bs).crc = s.crc := rfl
@[simp] theorem pushAll_adlA (bs : List Byte) : (s.pushAll bs).adlA = s.adlA := rfl
@[simp] theorem pushAll_adlB (bs : List Byte) : (s.pushAll bs).adlB = s.adlB := rfl
@[simp] theorem pushAll_dec (bs : List Byte) : (s.pushAll bs).dec = s.dec := rfl
@[simp] theorem pushAll_zact (bs : List Byte) : (s.pushAll bs).zact = s.zact := rfl
@[simp] theorem pushAll_zrem (bs : List Byte) : (s.pushAll bs).zrem = s.zrem := rfl
@[simp] theorem pushAll_zblk (bs : List Byte) : (s.pushAll bs).zblk = s.zblk := rfl
@[simp] theorem pushAll_zfin (bs : List Byte) : (s.pushAll bs).zfin = s.zfin := rfl
@[simp] theorem pushAll_zdone (bs : List Byte) : (s.pushAll bs).zdone = s.zdone := rfl
@[simp] theorem pushAll_outq (bs : List Byte) : (s.pushAll bs).outq = s.outq ++ bs := rfl
@[simp] theorem pushAll_err (bs : List Byte) : (s.pushAll bs).err = s.err := rfl
@[simp] theorem pushAll_emult (bs : List Byte) : (s.pushAll bs).emult = s.emult := rfl
@[simp] theorem pushAll_ecode (bs : List Byte) : (s.pushAll bs).ecode = s.ecode := rfl
@[simp] theorem pushAll_config (bs : List Byte) : (s.pushAll bs).config = s.config := rfl
@[simp] theorem pushAll_pending (bs : List Byte) : (s.pushAll bs).pending = s.pending := rfl
@[simp] theorem pushAll_readData (bs : List Byte) : (s.pushAll bs).readData = s.readData := rfl

@[simp] theorem clearErrors_arg : (s.clearErrors).arg = s.arg := rfl
@[simp] theorem clearErrors_result : (s.clearErrors).result = s.result := rfl
@[simp] theorem clearErrors_crc : (s.clearErrors).crc = s.crc := rfl
@[simp] theorem clearErrors_adlA : (s.clearErrors).adlA = s.adlA := rfl
@[simp] theorem clearErrors_adlB : (s.clearErrors).adlB = s.adlB := rfl
@[simp] theorem clearErrors_dec : (s.clearErrors).dec = s.dec := rfl
@[simp] theorem clearErrors_zact : (s.clearErrors).zact = s.zact := rfl
@[simp] theorem clearErrors_zrem : (s.clearErrors).zrem = s.zrem := rfl
@[simp] theorem clearErrors_zblk : (s.clearErrors).zblk = s.zblk := rfl
@[simp] theorem clearErrors_zfin : (s.clearErrors).zfin = s.zfin := rfl
@[simp] theorem clearErrors_zdone : (s.clearErrors).zdone = s.zdone := rfl
@[simp] theorem clearErrors_outq : (s.clearErrors).outq = s.outq := rfl
@[simp] theorem clearErrors_err : (s.clearErrors).err = false := rfl
@[simp] theorem clearErrors_emult : (s.clearErrors).emult = false := rfl
@[simp] theorem clearErrors_ecode : (s.clearErrors).ecode = 0#4 := rfl
@[simp] theorem clearErrors_config : (s.clearErrors).config = s.config := rfl
@[simp] theorem clearErrors_pending : (s.clearErrors).pending = s.pending := rfl
@[simp] theorem clearErrors_readData : (s.clearErrors).readData = s.readData := rfl

@[simp] theorem resetBlock_arg : (s.resetBlock).arg = 0x00000000#32 := rfl
@[simp] theorem resetBlock_result : (s.resetBlock).result = 0x00000000#32 := rfl
@[simp] theorem resetBlock_crc : (s.resetBlock).crc = 0xFFFFFFFF#32 := rfl
@[simp] theorem resetBlock_adlA : (s.resetBlock).adlA = 1#16 := rfl
@[simp] theorem resetBlock_adlB : (s.resetBlock).adlB = 0#16 := rfl
@[simp] theorem resetBlock_dec : (s.resetBlock).dec = 0x00000000#32 := rfl
@[simp] theorem resetBlock_zact : (s.resetBlock).zact = false := rfl
@[simp] theorem resetBlock_zrem : (s.resetBlock).zrem = 0#32 := rfl
@[simp] theorem resetBlock_zblk : (s.resetBlock).zblk = 0#16 := rfl
@[simp] theorem resetBlock_zfin : (s.resetBlock).zfin = false := rfl
@[simp] theorem resetBlock_zdone : (s.resetBlock).zdone = false := rfl
@[simp] theorem resetBlock_outq : (s.resetBlock).outq = [] := rfl
@[simp] theorem resetBlock_err : (s.resetBlock).err = false := rfl
@[simp] theorem resetBlock_emult : (s.resetBlock).emult = false := rfl
@[simp] theorem resetBlock_ecode : (s.resetBlock).ecode = 0#4 := rfl
@[simp] theorem resetBlock_config : (s.resetBlock).config = s.config := rfl
@[simp] theorem resetBlock_pending : (s.resetBlock).pending = s.pending := rfl
@[simp] theorem resetBlock_readData : (s.resetBlock).readData = s.readData := rfl

@[simp] theorem adlerInit_arg : (s.adlerInit).arg = s.arg := rfl
@[simp] theorem adlerInit_result : (s.adlerInit).result = s.result := rfl
@[simp] theorem adlerInit_crc : (s.adlerInit).crc = s.crc := rfl
@[simp] theorem adlerInit_adlA : (s.adlerInit).adlA = 1#16 := rfl
@[simp] theorem adlerInit_adlB : (s.adlerInit).adlB = 0#16 := rfl
@[simp] theorem adlerInit_dec : (s.adlerInit).dec = s.dec := rfl
@[simp] theorem adlerInit_zact : (s.adlerInit).zact = s.zact := rfl
@[simp] theorem adlerInit_zrem : (s.adlerInit).zrem = s.zrem := rfl
@[simp] theorem adlerInit_zblk : (s.adlerInit).zblk = s.zblk := rfl
@[simp] theorem adlerInit_zfin : (s.adlerInit).zfin = s.zfin := rfl
@[simp] theorem adlerInit_zdone : (s.adlerInit).zdone = s.zdone := rfl
@[simp] theorem adlerInit_outq : (s.adlerInit).outq = s.outq := rfl
@[simp] theorem adlerInit_err : (s.adlerInit).err = s.err := rfl
@[simp] theorem adlerInit_emult : (s.adlerInit).emult = s.emult := rfl
@[simp] theorem adlerInit_ecode : (s.adlerInit).ecode = s.ecode := rfl
@[simp] theorem adlerInit_config : (s.adlerInit).config = s.config := rfl
@[simp] theorem adlerInit_pending : (s.adlerInit).pending = s.pending := rfl
@[simp] theorem adlerInit_readData : (s.adlerInit).readData = s.readData := rfl

@[simp] theorem adlerUpdate_arg (b : Byte) : (s.adlerUpdate b).arg = s.arg := rfl
@[simp] theorem adlerUpdate_result (b : Byte) : (s.adlerUpdate b).result = s.result := rfl
@[simp] theorem adlerUpdate_crc (b : Byte) : (s.adlerUpdate b).crc = s.crc := rfl
@[simp] theorem adlerUpdate_adlA (b : Byte) : (s.adlerUpdate b).adlA = adlerA s.adlA b := rfl
@[simp] theorem adlerUpdate_adlB (b : Byte) : (s.adlerUpdate b).adlB = adlerB s.adlB (adlerA s.adlA b) := rfl
@[simp] theorem adlerUpdate_dec (b : Byte) : (s.adlerUpdate b).dec = s.dec := rfl
@[simp] theorem adlerUpdate_zact (b : Byte) : (s.adlerUpdate b).zact = s.zact := rfl
@[simp] theorem adlerUpdate_zrem (b : Byte) : (s.adlerUpdate b).zrem = s.zrem := rfl
@[simp] theorem adlerUpdate_zblk (b : Byte) : (s.adlerUpdate b).zblk = s.zblk := rfl
@[simp] theorem adlerUpdate_zfin (b : Byte) : (s.adlerUpdate b).zfin = s.zfin := rfl
@[simp] theorem adlerUpdate_zdone (b : Byte) : (s.adlerUpdate b).zdone = s.zdone := rfl
@[simp] theorem adlerUpdate_outq (b : Byte) : (s.adlerUpdate b).outq = s.outq := rfl
@[simp] theorem adlerUpdate_err (b : Byte) : (s.adlerUpdate b).err = s.err := rfl
@[simp] theorem adlerUpdate_emult (b : Byte) : (s.adlerUpdate b).emult = s.emult := rfl
@[simp] theorem adlerUpdate_ecode (b : Byte) : (s.adlerUpdate b).ecode = s.ecode := rfl
@[simp] theorem adlerUpdate_config (b : Byte) : (s.adlerUpdate b).config = s.config := rfl
@[simp] theorem adlerUpdate_pending (b : Byte) : (s.adlerUpdate b).pending = s.pending := rfl
@[simp] theorem adlerUpdate_readData (b : Byte) : (s.adlerUpdate b).readData = s.readData := rfl

@[simp] theorem blockHeader_arg (r : Word) : (s.blockHeader r).arg = s.arg := rfl
@[simp] theorem blockHeader_result (r : Word) : (s.blockHeader r).result = s.result := rfl
@[simp] theorem blockHeader_crc (r : Word) : (s.blockHeader r).crc = s.crc := rfl
@[simp] theorem blockHeader_adlA (r : Word) : (s.blockHeader r).adlA = s.adlA := rfl
@[simp] theorem blockHeader_adlB (r : Word) : (s.blockHeader r).adlB = s.adlB := rfl
@[simp] theorem blockHeader_dec (r : Word) : (s.blockHeader r).dec = s.dec := rfl
@[simp] theorem blockHeader_zact (r : Word) : (s.blockHeader r).zact = s.zact := rfl
@[simp] theorem blockHeader_zrem (r : Word) : (s.blockHeader r).zrem = s.zrem := rfl
@[simp] theorem blockHeader_zblk (r : Word) : (s.blockHeader r).zblk = blockLength r := rfl
@[simp] theorem blockHeader_zfin (r : Word) : (s.blockHeader r).zfin = blockIsLast r := rfl
@[simp] theorem blockHeader_zdone (r : Word) : (s.blockHeader r).zdone = s.zdone := rfl
@[simp] theorem blockHeader_outq (r : Word) : (s.blockHeader r).outq = s.outq ++ blockHeaderBytes (blockIsLast r) (blockLength r) := rfl
@[simp] theorem blockHeader_err (r : Word) : (s.blockHeader r).err = s.err := rfl
@[simp] theorem blockHeader_emult (r : Word) : (s.blockHeader r).emult = s.emult := rfl
@[simp] theorem blockHeader_ecode (r : Word) : (s.blockHeader r).ecode = s.ecode := rfl
@[simp] theorem blockHeader_config (r : Word) : (s.blockHeader r).config = s.config := rfl
@[simp] theorem blockHeader_pending (r : Word) : (s.blockHeader r).pending = s.pending := rfl
@[simp] theorem blockHeader_readData (r : Word) : (s.blockHeader r).readData = s.readData := rfl

@[simp] theorem taking_arg (rest : List HostEvent) : (s.taking rest).arg = s.arg := rfl
@[simp] theorem taking_result (rest : List HostEvent) : (s.taking rest).result = s.result := rfl
@[simp] theorem taking_crc (rest : List HostEvent) : (s.taking rest).crc = s.crc := rfl
@[simp] theorem taking_adlA (rest : List HostEvent) : (s.taking rest).adlA = s.adlA := rfl
@[simp] theorem taking_adlB (rest : List HostEvent) : (s.taking rest).adlB = s.adlB := rfl
@[simp] theorem taking_dec (rest : List HostEvent) : (s.taking rest).dec = s.dec := rfl
@[simp] theorem taking_zact (rest : List HostEvent) : (s.taking rest).zact = s.zact := rfl
@[simp] theorem taking_zrem (rest : List HostEvent) : (s.taking rest).zrem = s.zrem := rfl
@[simp] theorem taking_zblk (rest : List HostEvent) : (s.taking rest).zblk = s.zblk := rfl
@[simp] theorem taking_zfin (rest : List HostEvent) : (s.taking rest).zfin = s.zfin := rfl
@[simp] theorem taking_zdone (rest : List HostEvent) : (s.taking rest).zdone = s.zdone := rfl
@[simp] theorem taking_outq (rest : List HostEvent) : (s.taking rest).outq = s.outq := rfl
@[simp] theorem taking_err (rest : List HostEvent) : (s.taking rest).err = s.err := rfl
@[simp] theorem taking_emult (rest : List HostEvent) : (s.taking rest).emult = s.emult := rfl
@[simp] theorem taking_ecode (rest : List HostEvent) : (s.taking rest).ecode = s.ecode := rfl
@[simp] theorem taking_config (rest : List HostEvent) : (s.taking rest).config = s.config := rfl
@[simp] theorem taking_pending (rest : List HostEvent) : (s.taking rest).pending = rest := rfl
@[simp] theorem taking_readData (rest : List HostEvent) : (s.taking rest).readData = none := rfl

@[simp] theorem issue_arg (w : Word) : (s.issue w).arg = s.arg := rfl
@[simp] theorem issue_result (w : Word) : (s.issue w).result = s.result := rfl
@[simp] theorem issue_crc (w : Word) : (s.issue w).crc = s.crc := rfl
@[simp] theorem issue_adlA (w : Word) : (s.issue w).adlA = s.adlA := rfl
@[simp] theorem issue_adlB (w : Word) : (s.issue w).adlB = s.adlB := rfl
@[simp] theorem issue_dec (w : Word) : (s.issue w).dec = s.dec := rfl
@[simp] theorem issue_zact (w : Word) : (s.issue w).zact = s.zact := rfl
@[simp] theorem issue_zrem (w : Word) : (s.issue w).zrem = s.zrem := rfl
@[simp] theorem issue_zblk (w : Word) : (s.issue w).zblk = s.zblk := rfl
@[simp] theorem issue_zfin (w : Word) : (s.issue w).zfin = s.zfin := rfl
@[simp] theorem issue_zdone (w : Word) : (s.issue w).zdone = s.zdone := rfl
@[simp] theorem issue_outq (w : Word) : (s.issue w).outq = s.outq := rfl
@[simp] theorem issue_err (w : Word) : (s.issue w).err = s.err := rfl
@[simp] theorem issue_emult (w : Word) : (s.issue w).emult = s.emult := rfl
@[simp] theorem issue_ecode (w : Word) : (s.issue w).ecode = s.ecode := rfl
@[simp] theorem issue_config (w : Word) : (s.issue w).config = s.config := rfl
@[simp] theorem issue_pending (w : Word) : (s.issue w).pending = cmdWrite s.config w :: s.pending := rfl
@[simp] theorem issue_readData (w : Word) : (s.issue w).readData = s.readData := rfl

@[simp] theorem withQueue_arg (q : List Byte) : (s.withQueue q).arg = s.arg := rfl
@[simp] theorem withQueue_result (q : List Byte) : (s.withQueue q).result = s.result := rfl
@[simp] theorem withQueue_crc (q : List Byte) : (s.withQueue q).crc = s.crc := rfl
@[simp] theorem withQueue_adlA (q : List Byte) : (s.withQueue q).adlA = s.adlA := rfl
@[simp] theorem withQueue_adlB (q : List Byte) : (s.withQueue q).adlB = s.adlB := rfl
@[simp] theorem withQueue_dec (q : List Byte) : (s.withQueue q).dec = s.dec := rfl
@[simp] theorem withQueue_zact (q : List Byte) : (s.withQueue q).zact = s.zact := rfl
@[simp] theorem withQueue_zrem (q : List Byte) : (s.withQueue q).zrem = s.zrem := rfl
@[simp] theorem withQueue_zblk (q : List Byte) : (s.withQueue q).zblk = s.zblk := rfl
@[simp] theorem withQueue_zfin (q : List Byte) : (s.withQueue q).zfin = s.zfin := rfl
@[simp] theorem withQueue_zdone (q : List Byte) : (s.withQueue q).zdone = s.zdone := rfl
@[simp] theorem withQueue_outq (q : List Byte) : (s.withQueue q).outq = q := rfl
@[simp] theorem withQueue_err (q : List Byte) : (s.withQueue q).err = s.err := rfl
@[simp] theorem withQueue_emult (q : List Byte) : (s.withQueue q).emult = s.emult := rfl
@[simp] theorem withQueue_ecode (q : List Byte) : (s.withQueue q).ecode = s.ecode := rfl
@[simp] theorem withQueue_config (q : List Byte) : (s.withQueue q).config = s.config := rfl
@[simp] theorem withQueue_pending (q : List Byte) : (s.withQueue q).pending = s.pending := rfl
@[simp] theorem withQueue_readData (q : List Byte) : (s.withQueue q).readData = s.readData := rfl

@[simp] theorem setDone_arg (d : Bool) : (s.setDone d).arg = s.arg := rfl
@[simp] theorem setDone_result (d : Bool) : (s.setDone d).result = s.result := rfl
@[simp] theorem setDone_crc (d : Bool) : (s.setDone d).crc = s.crc := rfl
@[simp] theorem setDone_adlA (d : Bool) : (s.setDone d).adlA = s.adlA := rfl
@[simp] theorem setDone_adlB (d : Bool) : (s.setDone d).adlB = s.adlB := rfl
@[simp] theorem setDone_dec (d : Bool) : (s.setDone d).dec = s.dec := rfl
@[simp] theorem setDone_zact (d : Bool) : (s.setDone d).zact = s.zact := rfl
@[simp] theorem setDone_zrem (d : Bool) : (s.setDone d).zrem = s.zrem := rfl
@[simp] theorem setDone_zblk (d : Bool) : (s.setDone d).zblk = s.zblk := rfl
@[simp] theorem setDone_zfin (d : Bool) : (s.setDone d).zfin = s.zfin := rfl
@[simp] theorem setDone_zdone (d : Bool) : (s.setDone d).zdone = d := rfl
@[simp] theorem setDone_outq (d : Bool) : (s.setDone d).outq = s.outq := rfl
@[simp] theorem setDone_err (d : Bool) : (s.setDone d).err = s.err := rfl
@[simp] theorem setDone_emult (d : Bool) : (s.setDone d).emult = s.emult := rfl
@[simp] theorem setDone_ecode (d : Bool) : (s.setDone d).ecode = s.ecode := rfl
@[simp] theorem setDone_config (d : Bool) : (s.setDone d).config = s.config := rfl
@[simp] theorem setDone_pending (d : Bool) : (s.setDone d).pending = s.pending := rfl
@[simp] theorem setDone_readData (d : Bool) : (s.setDone d).readData = s.readData := rfl

@[simp] theorem openStream_arg (n : Word) : (s.openStream n).arg = s.arg := rfl
@[simp] theorem openStream_result (n : Word) : (s.openStream n).result = s.result := rfl
@[simp] theorem openStream_crc (n : Word) : (s.openStream n).crc = s.crc := rfl
@[simp] theorem openStream_adlA (n : Word) : (s.openStream n).adlA = s.adlA := rfl
@[simp] theorem openStream_adlB (n : Word) : (s.openStream n).adlB = s.adlB := rfl
@[simp] theorem openStream_dec (n : Word) : (s.openStream n).dec = s.dec := rfl
@[simp] theorem openStream_zact (n : Word) : (s.openStream n).zact = true := rfl
@[simp] theorem openStream_zrem (n : Word) : (s.openStream n).zrem = n := rfl
@[simp] theorem openStream_zblk (n : Word) : (s.openStream n).zblk = s.zblk := rfl
@[simp] theorem openStream_zfin (n : Word) : (s.openStream n).zfin = s.zfin := rfl
@[simp] theorem openStream_zdone (n : Word) : (s.openStream n).zdone = s.zdone := rfl
@[simp] theorem openStream_outq (n : Word) : (s.openStream n).outq = s.outq := rfl
@[simp] theorem openStream_err (n : Word) : (s.openStream n).err = s.err := rfl
@[simp] theorem openStream_emult (n : Word) : (s.openStream n).emult = s.emult := rfl
@[simp] theorem openStream_ecode (n : Word) : (s.openStream n).ecode = s.ecode := rfl
@[simp] theorem openStream_config (n : Word) : (s.openStream n).config = s.config := rfl
@[simp] theorem openStream_pending (n : Word) : (s.openStream n).pending = s.pending := rfl
@[simp] theorem openStream_readData (n : Word) : (s.openStream n).readData = s.readData := rfl

@[simp] theorem countDown_arg : (s.countDown).arg = s.arg := rfl
@[simp] theorem countDown_result : (s.countDown).result = s.result := rfl
@[simp] theorem countDown_crc : (s.countDown).crc = s.crc := rfl
@[simp] theorem countDown_adlA : (s.countDown).adlA = s.adlA := rfl
@[simp] theorem countDown_adlB : (s.countDown).adlB = s.adlB := rfl
@[simp] theorem countDown_dec : (s.countDown).dec = s.dec := rfl
@[simp] theorem countDown_zact : (s.countDown).zact = s.zact := rfl
@[simp] theorem countDown_zrem : (s.countDown).zrem = s.zrem - 1#32 := rfl
@[simp] theorem countDown_zblk : (s.countDown).zblk = s.zblk - 1#16 := rfl
@[simp] theorem countDown_zfin : (s.countDown).zfin = s.zfin := rfl
@[simp] theorem countDown_zdone : (s.countDown).zdone = s.zdone := rfl
@[simp] theorem countDown_outq : (s.countDown).outq = s.outq := rfl
@[simp] theorem countDown_err : (s.countDown).err = s.err := rfl
@[simp] theorem countDown_emult : (s.countDown).emult = s.emult := rfl
@[simp] theorem countDown_ecode : (s.countDown).ecode = s.ecode := rfl
@[simp] theorem countDown_config : (s.countDown).config = s.config := rfl
@[simp] theorem countDown_pending : (s.countDown).pending = s.pending := rfl
@[simp] theorem countDown_readData : (s.countDown).readData = s.readData := rfl

@[simp] theorem closeStream_arg : (s.closeStream).arg = s.arg := rfl
@[simp] theorem closeStream_result : (s.closeStream).result = s.result := rfl
@[simp] theorem closeStream_crc : (s.closeStream).crc = s.crc := rfl
@[simp] theorem closeStream_adlA : (s.closeStream).adlA = s.adlA := rfl
@[simp] theorem closeStream_adlB : (s.closeStream).adlB = s.adlB := rfl
@[simp] theorem closeStream_dec : (s.closeStream).dec = s.dec := rfl
@[simp] theorem closeStream_zact : (s.closeStream).zact = false := rfl
@[simp] theorem closeStream_zrem : (s.closeStream).zrem = s.zrem := rfl
@[simp] theorem closeStream_zblk : (s.closeStream).zblk = s.zblk := rfl
@[simp] theorem closeStream_zfin : (s.closeStream).zfin = false := rfl
@[simp] theorem closeStream_zdone : (s.closeStream).zdone = true := rfl
@[simp] theorem closeStream_outq : (s.closeStream).outq = s.outq := rfl
@[simp] theorem closeStream_err : (s.closeStream).err = s.err := rfl
@[simp] theorem closeStream_emult : (s.closeStream).emult = s.emult := rfl
@[simp] theorem closeStream_ecode : (s.closeStream).ecode = s.ecode := rfl
@[simp] theorem closeStream_config : (s.closeStream).config = s.config := rfl
@[simp] theorem closeStream_pending : (s.closeStream).pending = s.pending := rfl
@[simp] theorem closeStream_readData : (s.closeStream).readData = s.readData := rfl

@[simp] theorem returning_arg (v : Word) : (s.returning v).arg = s.arg := rfl
@[simp] theorem returning_result (v : Word) : (s.returning v).result = s.result := rfl
@[simp] theorem returning_crc (v : Word) : (s.returning v).crc = s.crc := rfl
@[simp] theorem returning_adlA (v : Word) : (s.returning v).adlA = s.adlA := rfl
@[simp] theorem returning_adlB (v : Word) : (s.returning v).adlB = s.adlB := rfl
@[simp] theorem returning_dec (v : Word) : (s.returning v).dec = s.dec := rfl
@[simp] theorem returning_zact (v : Word) : (s.returning v).zact = s.zact := rfl
@[simp] theorem returning_zrem (v : Word) : (s.returning v).zrem = s.zrem := rfl
@[simp] theorem returning_zblk (v : Word) : (s.returning v).zblk = s.zblk := rfl
@[simp] theorem returning_zfin (v : Word) : (s.returning v).zfin = s.zfin := rfl
@[simp] theorem returning_zdone (v : Word) : (s.returning v).zdone = s.zdone := rfl
@[simp] theorem returning_outq (v : Word) : (s.returning v).outq = s.outq := rfl
@[simp] theorem returning_err (v : Word) : (s.returning v).err = s.err := rfl
@[simp] theorem returning_emult (v : Word) : (s.returning v).emult = s.emult := rfl
@[simp] theorem returning_ecode (v : Word) : (s.returning v).ecode = s.ecode := rfl
@[simp] theorem returning_config (v : Word) : (s.returning v).config = s.config := rfl
@[simp] theorem returning_pending (v : Word) : (s.returning v).pending = s.pending := rfl
@[simp] theorem returning_readData (v : Word) : (s.returning v).readData = some v := rfl

/-! Z.ABORT's effect. -/

@[simp] theorem zAbortEffect_arg : (zAbortEffect s).arg = s.arg := rfl
@[simp] theorem zAbortEffect_result : (zAbortEffect s).result = s.result := rfl
@[simp] theorem zAbortEffect_crc : (zAbortEffect s).crc = s.crc := rfl
@[simp] theorem zAbortEffect_adlA : (zAbortEffect s).adlA = s.adlA := rfl
@[simp] theorem zAbortEffect_adlB : (zAbortEffect s).adlB = s.adlB := rfl
@[simp] theorem zAbortEffect_dec : (zAbortEffect s).dec = s.dec := rfl
@[simp] theorem zAbortEffect_zact : (zAbortEffect s).zact = false := rfl
@[simp] theorem zAbortEffect_zrem : (zAbortEffect s).zrem = 0#32 := rfl
@[simp] theorem zAbortEffect_zblk : (zAbortEffect s).zblk = 0#16 := rfl
@[simp] theorem zAbortEffect_zfin : (zAbortEffect s).zfin = false := rfl
@[simp] theorem zAbortEffect_zdone : (zAbortEffect s).zdone = false := rfl
@[simp] theorem zAbortEffect_outq : (zAbortEffect s).outq = s.outq := rfl
@[simp] theorem zAbortEffect_err : (zAbortEffect s).err = s.err := rfl
@[simp] theorem zAbortEffect_emult : (zAbortEffect s).emult = s.emult := rfl
@[simp] theorem zAbortEffect_ecode : (zAbortEffect s).ecode = s.ecode := rfl
@[simp] theorem zAbortEffect_config : (zAbortEffect s).config = s.config := rfl
@[simp] theorem zAbortEffect_pending : (zAbortEffect s).pending = s.pending := rfl
@[simp] theorem zAbortEffect_readData : (zAbortEffect s).readData = s.readData := rfl

/-! Recording an error changes the error state only (R222, R226). -/

@[simp] theorem recordError_arg (c : ErrorCode) : (s.recordError c).arg = s.arg := by
  unfold recordError; split <;> rfl
@[simp] theorem recordError_result (c : ErrorCode) : (s.recordError c).result = s.result := by
  unfold recordError; split <;> rfl
@[simp] theorem recordError_crc (c : ErrorCode) : (s.recordError c).crc = s.crc := by
  unfold recordError; split <;> rfl
@[simp] theorem recordError_adlA (c : ErrorCode) : (s.recordError c).adlA = s.adlA := by
  unfold recordError; split <;> rfl
@[simp] theorem recordError_adlB (c : ErrorCode) : (s.recordError c).adlB = s.adlB := by
  unfold recordError; split <;> rfl
@[simp] theorem recordError_dec (c : ErrorCode) : (s.recordError c).dec = s.dec := by
  unfold recordError; split <;> rfl
@[simp] theorem recordError_zact (c : ErrorCode) : (s.recordError c).zact = s.zact := by
  unfold recordError; split <;> rfl
@[simp] theorem recordError_zrem (c : ErrorCode) : (s.recordError c).zrem = s.zrem := by
  unfold recordError; split <;> rfl
@[simp] theorem recordError_zblk (c : ErrorCode) : (s.recordError c).zblk = s.zblk := by
  unfold recordError; split <;> rfl
@[simp] theorem recordError_zfin (c : ErrorCode) : (s.recordError c).zfin = s.zfin := by
  unfold recordError; split <;> rfl
@[simp] theorem recordError_zdone (c : ErrorCode) : (s.recordError c).zdone = s.zdone := by
  unfold recordError; split <;> rfl
@[simp] theorem recordError_outq (c : ErrorCode) : (s.recordError c).outq = s.outq := by
  unfold recordError; split <;> rfl
@[simp] theorem recordError_config (c : ErrorCode) : (s.recordError c).config = s.config := by
  unfold recordError; split <;> rfl
@[simp] theorem recordError_pending (c : ErrorCode) : (s.recordError c).pending = s.pending := by
  unfold recordError; split <;> rfl
@[simp] theorem recordError_readData (c : ErrorCode) : (s.recordError c).readData = s.readData := by
  unfold recordError; split <;> rfl

/-- After an error ERR is 1 (R222). -/
@[simp] theorem recordError_err (c : ErrorCode) : (s.recordError c).err = true := by
  cases h : s.err <;> simp [recordError, h]

/-- A further error sets EMULT; a first one leaves it (R222). -/
@[simp] theorem recordError_emult (c : ErrorCode) : (s.recordError c).emult = (s.emult || s.err) := by
  cases h : s.err <;> simp [recordError, h]

/-- ECODE keeps the first error's code (R222). -/
@[simp] theorem recordError_ecode (c : ErrorCode) :
    (s.recordError c).ecode = if s.err = false then c.code else s.ecode := by
  unfold recordError; split <;> rfl

/-! Pushing byte by byte and all at once are the same (R12). -/

@[simp] theorem pushAll_nil : s.pushAll [] = s := by simp [pushAll]

theorem pushAll_cons (b : Byte) (bs : List Byte) : s.pushAll (b :: bs) = (s.push b).pushAll bs := by
  simp [pushAll, push]

theorem pushAll_append (bs cs : List Byte) : s.pushAll (bs ++ cs) = (s.pushAll bs).pushAll cs := by
  simp [pushAll]

/-! The state after reset. -/

@[simp] theorem resetWith_arg (c : Config) : (resetWith c).arg = 0x00000000#32 := rfl
@[simp] theorem resetWith_result (c : Config) : (resetWith c).result = 0x00000000#32 := rfl
@[simp] theorem resetWith_crc (c : Config) : (resetWith c).crc = 0xFFFFFFFF#32 := rfl
@[simp] theorem resetWith_adlA (c : Config) : (resetWith c).adlA = 1#16 := rfl
@[simp] theorem resetWith_adlB (c : Config) : (resetWith c).adlB = 0#16 := rfl
@[simp] theorem resetWith_dec (c : Config) : (resetWith c).dec = 0x00000000#32 := rfl
@[simp] theorem resetWith_zact (c : Config) : (resetWith c).zact = false := rfl
@[simp] theorem resetWith_zrem (c : Config) : (resetWith c).zrem = 0#32 := rfl
@[simp] theorem resetWith_zblk (c : Config) : (resetWith c).zblk = 0#16 := rfl
@[simp] theorem resetWith_zfin (c : Config) : (resetWith c).zfin = false := rfl
@[simp] theorem resetWith_zdone (c : Config) : (resetWith c).zdone = false := rfl
@[simp] theorem resetWith_outq (c : Config) : (resetWith c).outq = [] := rfl
@[simp] theorem resetWith_err (c : Config) : (resetWith c).err = false := rfl
@[simp] theorem resetWith_emult (c : Config) : (resetWith c).emult = false := rfl
@[simp] theorem resetWith_ecode (c : Config) : (resetWith c).ecode = 0#4 := rfl
@[simp] theorem resetWith_config (c : Config) : (resetWith c).config = c := rfl
@[simp] theorem resetWith_pending (c : Config) : (resetWith c).pending = [] := rfl
@[simp] theorem resetWith_readData (c : Config) : (resetWith c).readData = none := rfl
theorem resetBlock_eq : s.resetBlock = { resetWith s.config with pending := s.pending, readData := s.readData } := rfl

end State

end Sys2Proof.Machine
end

