-- ==== Sys2Proof/Laws/Ops.lean ====
section
/-! SUPPORT. One lemma per shared operation that says everything it can do. -/

namespace Sys2Proof.Machine

/-! Executing a decoded command (R94). -/

/-- The whole effect of each command (R94, `Effect(opc, b)`), by name. -/
def effectOf : Instr → State → State
  | .nop => fun s => s
  | .clrerr => State.clearErrors
  | .sreset => State.resetBlock
  | .crcInit => fun s => { s with crc := 0xFFFFFFFF#32 }
  | .crcByte b => fun s => { s with crc := crcUpdate s.crc b }
  | .crcFinal => fun s => { s with result := s.crc ^^^ 0xFFFFFFFF#32 }
  | .crcLookup i => fun s => { s with result := crcTable i }
  | .adlInit => State.adlerInit
  | .adlByte b => fun s => s.adlerUpdate b
  | .adlFinal => fun s => { s with result := s.adler }
  | .beEnca => fun s => s.pushAll (u32be s.argOperand)
  | .beEncr => fun s => s.pushAll (u32be s.resultOperand)
  | .beDec b => fun s => { s with dec := s.dec <<< 8 ||| imm32 b }
  | .beDclr => fun s => { s with dec := 0x00000000#32 }
  | .zStart => zStartEffect
  | .zData b => zDataEffect b
  | .zAbort => zAbortEffect

/-- Every command is the shared execution of its effect (R94). -/
theorem exec_eq_runCommand (i : Instr) (s : State) : exec i s = runCommand i (effectOf i) s := by
  cases i <;> rfl

/-- A command with no error has its effect (R94). -/
theorem exec_of_no_error {i : Instr} {s : State} (h : commandError i s = none) :
    exec i s = .next (effectOf i s) := by
  rw [exec_eq_runCommand, runCommand, h]

/-- A command with an error only records it (R94, R226). -/
theorem exec_of_error {i : Instr} {s : State} {c : ErrorCode} (h : commandError i s = some c) :
    exec i s = .next (s.recordError c) := by
  rw [exec_eq_runCommand, runCommand, h]

/-- What a command can do: its effect, or the record of its error. -/
theorem exec_cases {i : Instr} {s t : State} (h : exec i s = .next t) :
    (commandError i s = none ∧ t = effectOf i s) ∨ ∃ c, commandError i s = some c ∧ t = s.recordError c := by
  rcases hc : commandError i s with _ | c
  · rw [exec_of_no_error hc] at h
    exact .inl ⟨rfl, by cases h; rfl⟩
  · rw [exec_of_error hc] at h
    exact .inr ⟨c, rfl, by cases h; rfl⟩

/-- When a command raises no error: its state check passes and its pushes fit (R94). -/
theorem commandError_none_iff {i : Instr} {s : State} :
    commandError i s = none ↔ stateCheck i s = none ∧ s.outq.length + pushCount i s ≤ s.config.outqDepth := by
  unfold commandError
  split
  · next c h => simp [h]
  · next h => simp [h]

/-- When a command raises OUT_OVF: its state check passes and its pushes do not fit (R94, R223). -/
theorem commandError_outOvf_iff {i : Instr} {s : State} :
    commandError i s = some .outOvf ↔ stateCheck i s = none ∧ s.config.outqDepth < s.outq.length + pushCount i s := by
  unfold commandError
  split
  · next c h => cases i <;> simp_all [stateCheck] <;> (rintro rfl; simp_all)
  · next h =>
    by_cases hf : s.outq.length + pushCount i s ≤ s.config.outqDepth
    · simp [h, hf]
    · simp [h, hf]; omega

/-! The output queue (R74). -/

theorem pop?_nil {s : State} (h : s.outq = []) : s.pop? = none := by simp [State.pop?, h]

theorem pop?_cons {s : State} {b : Byte} {rest : List Byte} (h : s.outq = b :: rest) :
    s.pop? = some (b, s.withQueue rest) := by simp [State.pop?, h]

/-! The Adler sums (R131, R133). -/

theorem adlerA_toNat (a : Half) (byte : Byte) : (adlerA a byte).toNat = (a.toNat + byte.toNat) % 65521 := by
  have := Nat.mod_lt (a.toNat + byte.toNat) (by decide : 65521 > 0)
  simp only [adlerA, adlerMod, BitVec.toNat_ofNat]
  omega

theorem adlerB_toNat (b a : Half) : (adlerB b a).toNat = (b.toNat + a.toNat) % 65521 := by
  have := Nat.mod_lt (b.toNat + a.toNat) (by decide : 65521 > 0)
  simp only [adlerB, adlerMod, BitVec.toNat_ofNat]
  omega

/-! The block-length control (R177). -/

theorem blockLength_toNat (r : Word) : (blockLength r).toNat = min r.toNat 65535 := by
  simp only [blockLength, blockMax, BitVec.toNat_ofNat]
  omega

theorem blockIsLast_iff (r : Word) : blockIsLast r = true ↔ r.toNat ≤ 65535 := by
  unfold blockIsLast
  exact decide_eq_true_iff

/-! The window (R32, R61). -/

theorem config_depth_bounds (c : Config) : 11 ≤ c.outqDepth ∧ c.outqDepth ≤ 255 := by
  have := c.depthOver.isLt
  unfold Config.outqDepth
  omega

theorem inWindow_iff {c : Config} {addr : Nat} : inWindow c addr = true ↔ c.base ≤ addr ∧ addr < c.base + 64 := by
  simp [inWindow]

theorem inWindow_base {c : Config} {off : Nat} (h : off < 64) : inWindow c (c.base + off) = true := by
  simp [inWindow, h]

theorem windowOffset_base {c : Config} {off : Nat} (h : off < 64) : windowOffset (c.base + off) = off := by
  simp [windowOffset, Config.base, Nat.mod_eq_of_lt h]

/-- In the window, bits [5:0] of an address are its distance from BASE (R8, R61). -/
theorem windowOffset_eq {c : Config} {addr : Nat} (h : inWindow c addr = true) :
    windowOffset addr = addr - c.base := by
  obtain ⟨h1, h2⟩ := inWindow_iff.1 h
  unfold Config.base at *
  unfold windowOffset
  omega

theorem regAt_offset (r : Reg) : regAt r.offset = some r := by cases r <;> rfl

theorem accessWellFormed_offset (r : Reg) : accessWellFormed r.offset 4 = true := by cases r <;> rfl

theorem offset_lt (r : Reg) : r.offset < 64 := by cases r <;> decide

/-- A well-formed access names a register (R61). -/
theorem regAt_of_wellFormed {off size : Nat} (h : accessWellFormed off size = true) :
    ∃ r : Reg, regAt off = some r ∧ off = r.offset ∧ size = 4 := by
  simp only [accessWellFormed, accessSizeOk, accessAligned, accessMapped, Bool.and_eq_true, beq_iff_eq,
    decide_eq_true_eq] at h
  obtain ⟨⟨hs, ha⟩, hm⟩ := h
  have : off = 0 ∨ off = 4 ∨ off = 8 ∨ off = 12 ∨ off = 16 ∨ off = 20 ∨ off = 24 ∨ off = 28 ∨ off = 32 ∨ off = 36 := by
    omega
  rcases this with rfl | rfl | rfl | rfl | rfl | rfl | rfl | rfl | rfl | rfl
  exacts [⟨.cmd, rfl, rfl, hs⟩, ⟨.arg, rfl, rfl, hs⟩, ⟨.result, rfl, rfl, hs⟩, ⟨.crc, rfl, rfl, hs⟩,
    ⟨.adler, rfl, rfl, hs⟩, ⟨.dec, rfl, rfl, hs⟩, ⟨.zrem, rfl, rfl, hs⟩, ⟨.zstat, rfl, rfl, hs⟩,
    ⟨.status, rfl, rfl, hs⟩, ⟨.out, rfl, rfl, hs⟩]

/-! One event, and the pending events. -/

theorem react_write_base {s : State} {off size : Nat} {v : Word} (h : off < 64) :
    react (.write (s.config.base + off) size v) s = busWrite off size v s := by
  simp [react, inWindow_base h, windowOffset_base h]

theorem react_read_base {s : State} {off size : Nat} (h : off < 64) :
    react (.read (s.config.base + off) size) s =
      .next ((busRead off size s).2.returning (busRead off size s).1) := by
  simp [react, inWindow_base h, windowOffset_base h]

/-- A command word written to CMD is executed (R94). -/
theorem react_cmdWrite (s : State) (w : Word) : react (cmdWrite s.config w) s = execute w s := by
  have h : accessWellFormed 0 4 = true := rfl
  rw [cmdWrite, react_write_base (offset_lt .cmd)]
  simp [busWrite, Reg.offset, h, regAt]

/-- What one event can do (R61 to R66, R94, R250): nothing; record an error; set ARG; run the command that its well-formed
write to CMD decodes to; return a value, after recording an error or popping the head of OUTQ where it does; or reset the
block. -/
theorem react_cases {e : HostEvent} {s t : State} (h : react e s = .next t) :
    t = s ∨ (∃ c, t = s.recordError c) ∨ (∃ v, t = { s with arg := v }) ∨
    (∃ i, exec i s = .next t ∧ ∀ p, isCommandEvent p s.config e = p i) ∨
    (∃ v, t = s.returning v) ∨ (∃ c v, t = (s.recordError c).returning v) ∨
    (∃ b rest, s.outq = b :: rest ∧ t = (s.withQueue rest).returning (outWord b)) ∨
    (e = .reset ∧ t = s.resetBlock) := by
  cases e with
  | write addr size v =>
    simp only [react, busWrite] at h
    split at h
    · next hw =>
      split at h
      · exact .inr (.inl ⟨_, by cases h; rfl⟩)
      · next hf =>
        have hwf : accessWellFormed (windowOffset addr) size = true := by simpa using hf
        obtain ⟨r, hr, ho, -⟩ := regAt_of_wellFormed hwf
        rw [hr] at h
        cases r with
        | cmd =>
          simp only [execute] at h
          split at h
          · exact .inr (.inl ⟨_, by cases h; rfl⟩)
          · next i hd =>
            exact .inr (.inr (.inr (.inl ⟨i, h, fun p => by simp [isCommandEvent, hw, ho, hd, ho ▸ hwf]⟩)))
        | arg => exact .inr (.inr (.inl ⟨v, by cases h; rfl⟩))
        | _ => exact .inr (.inl ⟨_, by cases h; rfl⟩)
    · exact .inl (by cases h; rfl)
  | read addr size =>
    simp only [react, busRead] at h
    split at h
    · split at h
      · exact .inr (.inr (.inr (.inr (.inr (.inl ⟨_, _, by cases h; rfl⟩)))))
      · next hf =>
        obtain ⟨r, hr, -, -⟩ := regAt_of_wellFormed (by simpa using hf)
        rw [hr] at h
        cases r with
        | out =>
          rcases hq : s.outq with _ | ⟨b, rest⟩
          · simp only [readReg, readOut, pop?_nil hq] at h
            exact .inr (.inr (.inr (.inr (.inl ⟨_, by cases h; rfl⟩))))
          · simp only [readReg, readOut, pop?_cons hq] at h
            exact .inr (.inr (.inr (.inr (.inr (.inr (.inl ⟨b, rest, rfl, by cases h; rfl⟩))))))
        | _ => exact .inr (.inr (.inr (.inr (.inl ⟨_, by cases h; rfl⟩))))
    · exact .inl (by cases h; rfl)
  | reset => exact .inr (.inr (.inr (.inr (.inr (.inr (.inr ⟨rfl, by cases h; rfl⟩))))))

/-- The step after `withFetchWord` executes the word (log entry 4). -/
theorem step_withFetchWord (s : State) (nbits w : Nat) :
    step (s.withFetchWord nbits w) = execute (BitVec.ofNat 32 (w % 2 ^ nbits)) (s.taking s.pending) :=
  react_cmdWrite (s.taking s.pending) _

end Sys2Proof.Machine
end

