-- ==== Sys2Proof/Laws/PerInstr.lean ====
section
/-! SUPPORT. Facts about every command as syntax, one lemma per constructor. -/

namespace Sys2Proof.Laws

namespace CommandWord

/-- The word of a command has its OPC of R92, a clear RSVD field and its operand in IMM8 (R90, R91); and a command that
takes no operand has IMM8 = 0. -/
def Statement (i : Instr) : Prop :=
  opcOf (encode i) = i.mnemonic.opc ∧ rsvdOf (encode i) = 0#16 ∧ imm8Of (encode i) = i.imm8 ∧
    (i.mnemonic.takesImm8 = false → i.imm8 = 0#8)

theorem nop : Statement .nop := by simp [Statement, encode, Instr.mnemonic, Instr.imm8]

theorem clrerr : Statement .clrerr := by simp [Statement, encode, Instr.mnemonic, Instr.imm8]

theorem sreset : Statement .sreset := by simp [Statement, encode, Instr.mnemonic, Instr.imm8]

theorem crcInit : Statement .crcInit := by simp [Statement, encode, Instr.mnemonic, Instr.imm8]

theorem crcByte (b : Byte) : Statement (.crcByte b) := by simp [Statement, encode, Instr.mnemonic, Instr.imm8, Mnemonic.takesImm8]

theorem crcFinal : Statement .crcFinal := by simp [Statement, encode, Instr.mnemonic, Instr.imm8]

theorem crcLookup (i : Byte) : Statement (.crcLookup i) := by simp [Statement, encode, Instr.mnemonic, Instr.imm8, Mnemonic.takesImm8]

theorem adlInit : Statement .adlInit := by simp [Statement, encode, Instr.mnemonic, Instr.imm8]

theorem adlByte (b : Byte) : Statement (.adlByte b) := by simp [Statement, encode, Instr.mnemonic, Instr.imm8, Mnemonic.takesImm8]

theorem adlFinal : Statement .adlFinal := by simp [Statement, encode, Instr.mnemonic, Instr.imm8]

theorem beEnca : Statement .beEnca := by simp [Statement, encode, Instr.mnemonic, Instr.imm8]

theorem beEncr : Statement .beEncr := by simp [Statement, encode, Instr.mnemonic, Instr.imm8]

theorem beDec (b : Byte) : Statement (.beDec b) := by simp [Statement, encode, Instr.mnemonic, Instr.imm8, Mnemonic.takesImm8]

theorem beDclr : Statement .beDclr := by simp [Statement, encode, Instr.mnemonic, Instr.imm8]

theorem zStart : Statement .zStart := by simp [Statement, encode, Instr.mnemonic, Instr.imm8]

theorem zData (b : Byte) : Statement (.zData b) := by simp [Statement, encode, Instr.mnemonic, Instr.imm8, Mnemonic.takesImm8]

theorem zAbort : Statement .zAbort := by simp [Statement, encode, Instr.mnemonic, Instr.imm8]

end CommandWord

end Sys2Proof.Laws
end

