-- ==== Sys2Proof/Tests/Slice0.lean ====
section
/-! SUPPORT. The model's own tests. Expected values are the spec's: worked examples of its rules and the vectors of
95_test_vectors.md (named in each comment). Then, for every statement with hypotheses, a concrete state and operands that
meet them, each clause at a boundary of its range. -/

namespace Sys2Proof.Tests

open Sys2Proof Sys2Proof.Machine

/-! Well-formedness: an ill-formed term for each check, which the check refuses (R61, R97). -/

theorem test_access_size_refused : accessWellFormed 0x04 2 = false := by decide
theorem test_access_alignment_refused : accessWellFormed 0x06 4 = false := by decide
theorem test_access_reserved_offset_refused : accessWellFormed 0x28 4 = false := by decide
theorem test_access_last_register_accepted : accessWellFormed 0x24 4 = true := by decide
theorem test_source_operand_out_of_range_refused :
    SourceLine.wellFormed ⟨.crcByte, some (.number 256)⟩ = false := by decide
theorem test_source_character_not_ascii_refused :
    SourceLine.wellFormed ⟨.crcByte, some (.character (Char.ofNat 233))⟩ = false := by decide
theorem test_source_operand_missing_refused : SourceLine.wellFormed ⟨.zData, none⟩ = false := by decide
theorem test_source_operand_not_taken_refused :
    SourceLine.wellFormed ⟨.zStart, some (.number 0)⟩ = false := by decide

/-! Decoding: a word for every constructor, written out bit by bit from R90 and R92. -/

theorem test_decode_nop : decode 0b00000000000000000000000000000000#32 = .ok .nop := by decide
theorem test_decode_clrerr : decode 0b00000001000000000000000000000000#32 = .ok .clrerr := by decide
theorem test_decode_sreset : decode 0b00001111000000000000000000000000#32 = .ok .sreset := by decide
theorem test_decode_crcInit : decode 0b00010000000000000000000000000000#32 = .ok .crcInit := by decide
theorem test_decode_crcByte : decode 0b00010001000000000000000001001001#32 = .ok (.crcByte 0x49#8) := by decide
theorem test_decode_crcFinal : decode 0b00010010000000000000000000000000#32 = .ok .crcFinal := by decide
theorem test_decode_crcLookup : decode 0b00010011000000000000000010000000#32 = .ok (.crcLookup 0x80#8) := by decide
theorem test_decode_adlInit : decode 0b00100000000000000000000000000000#32 = .ok .adlInit := by decide
theorem test_decode_adlByte : decode 0b00100001000000000000000001010111#32 = .ok (.adlByte 0x57#8) := by decide
theorem test_decode_adlFinal : decode 0b00100010000000000000000000000000#32 = .ok .adlFinal := by decide
theorem test_decode_beEnca : decode 0b00110000000000000000000000000000#32 = .ok .beEnca := by decide
theorem test_decode_beEncr : decode 0b00110001000000000000000000000000#32 = .ok .beEncr := by decide
theorem test_decode_beDec : decode 0b00110010000000000000000000010010#32 = .ok (.beDec 0x12#8) := by decide
theorem test_decode_beDclr : decode 0b00110011000000000000000000000000#32 = .ok .beDclr := by decide
theorem test_decode_zStart : decode 0b01000000000000000000000000000000#32 = .ok .zStart := by decide
theorem test_decode_zData : decode 0b01000001000000000000000011111111#32 = .ok (.zData 0xFF#8) := by decide
theorem test_decode_zAbort : decode 0b01001111000000000000000000000000#32 = .ok .zAbort := by decide

/-- The IMM8 field is never sign-extended: the byte 0xFF and the byte 0x01 stay apart (R91). -/
theorem test_decode_imm8_unsigned : decode 0x410000FF#32 ≠ decode 0x41000001#32 := by decide

/-! One step on a small state. -/

/-- The state an outcome goes on to. -/
def next? (o : Outcome) : Option State :=
  match o with
  | .next t => some t
  | .fault _ => none
  | .refused _ => none

/-- One step with one pending event, in the configuration of the vectors (D32). -/
def after (e : HostEvent) (s : State) : Option State := next? (step { s with pending := [e] })

/-- One step with one pending command word. -/
def afterWord (w : Word) (s : State) : Option State := after (writeReg s.config .cmd w) s

/-- One step with one pending read: what it returned. -/
def readBack (r : Reg) (s : State) : Option Word := (after (readOf s.config r) s).bind State.readData

/-- Vector Z10's end: a stream of 5 bytes is open. -/
def streamOpen : State :=
  { State.reset with
    arg := 5#32, zact := true, zrem := 5#32, zblk := 5#16, zfin := true
    outq := [0x78#8, 0x01#8, 0x01#8, 0x05#8, 0x00#8, 0xFA#8, 0xFF#8] }

/-- Vector Z18's start: the last byte of a block that is not the stream's last, and 11 bytes queued. -/
def blockEnd : State :=
  { State.reset with
    zact := true, zrem := 2#32, zblk := 1#16, zfin := false, outq := List.replicate 11 0x00#8 }

/-- Vector Z11's end: the last byte of the stream, and 11 bytes queued. -/
def streamEnd : State :=
  { streamOpen with
    zrem := 1#32, zblk := 1#16, adlA := 61#16, adlB := 104#16
    outq := streamOpen.outq ++ [0x00#8, 0x0A#8, 0x14#8, 0x1E#8] }

/-- A state in which nothing has its reset value and OUTQ is full. -/
def busy : State :=
  { State.reset with
    arg := 1#32, result := 2#32, crc := 0x12345678#32, adlA := 0x0398#16, adlB := 0x11E6#16, dec := 3#32
    zdone := true, outq := List.replicate 16 0xAA#8, err := true, emult := true, ecode := 3#4 }

-- Y1
theorem test_nop : afterWord 0x00000000#32 busy = some busy := by decide
-- Y6
theorem test_clrerr : (afterWord 0x01000000#32 busy).map State.status = some 0x00101000#32 := by decide
-- Y7
theorem test_sreset : afterWord 0x0F000000#32 busy = some State.reset := by decide
-- C1
theorem test_crcInit : (afterWord 0x10000000#32 busy).map State.crc = some 0xFFFFFFFF#32 := by decide
-- C2
theorem test_crcByte_zero : (afterWord 0x11000000#32 State.reset).map State.crc = some 0x2DFD1072#32 := by decide
-- C12: allowed while a stream is open
theorem test_crcByte_in_stream : afterWord 0x11000049#32 streamOpen = some { streamOpen with crc := 0x22FDE946#32 } := by
  decide
-- C3
theorem test_crcFinal :
    afterWord 0x12000000#32 { State.reset with crc := 0x2DFD1072#32 } =
      some { State.reset with crc := 0x2DFD1072#32, result := 0xD202EF8D#32 } := by decide
-- C9
theorem test_crcLookup : (afterWord 0x130000B6#32 State.reset).map State.result = some 0x220216B9#32 := by decide
-- A1
theorem test_adlInit : (afterWord 0x20000000#32 busy).map State.adler = some 0x00000001#32 := by decide
-- The example of R131
theorem test_adlByte : (afterWord 0x21000057#32 State.reset).map State.adler = some 0x00580058#32 := by decide
-- A11: refused while a stream is open
theorem test_adlByte_busy : (afterWord 0x21000005#32 streamOpen).map State.status = some 0x00100741#32 := by decide
-- A5's last byte: B reduces once, from (5611, 64537)
theorem test_adlByte_reduces :
    (afterWord 0x210000FF#32 { State.reset with adlA := 5611#16, adlB := 64537#16 }).map State.adler =
      some 0x131216EA#32 := by decide
-- The example of R132, and A12: allowed while a stream is open
theorem test_adlFinal : (afterWord 0x22000000#32 busy).map State.result = some 0x11E60398#32 := by decide
theorem test_adlFinal_in_stream : (afterWord 0x22000000#32 streamEnd).map State.result = some 0x0068003D#32 := by decide
-- B1
theorem test_beEnca :
    (afterWord 0x30000000#32 { State.reset with arg := 0x12345678#32 }).map State.outq =
      some [0x12#8, 0x34#8, 0x56#8, 0x78#8] := by decide
-- B9
theorem test_beEnca_no_room :
    (afterWord 0x30000000#32 { State.reset with arg := 1#32, outq := List.replicate 13 0#8 }).map State.status =
      some 0x00100D51#32 := by decide
-- B5
theorem test_beEncr :
    (afterWord 0x31000000#32 { State.reset with result := 0xAE426082#32 }).map State.outq =
      some [0xAE#8, 0x42#8, 0x60#8, 0x82#8] := by decide
-- B7: the top byte is dropped
theorem test_beDec :
    (afterWord 0x3200009A#32 { State.reset with dec := 0x12345678#32 }).map State.dec = some 0x3456789A#32 := by decide
-- B8
theorem test_beDclr : (afterWord 0x33000000#32 busy).map State.dec = some 0x00000000#32 := by decide
-- Z10
theorem test_zStart : afterWord 0x40000000#32 { State.reset with arg := 5#32 } = some streamOpen := by decide
-- Z17: the empty stream just fits
theorem test_zStart_empty :
    (afterWord 0x40000000#32 { State.reset with outq := List.replicate 5 0#8 }).map (fun t => (t.outq.drop 5, t.zstat)) =
      some ([0x78#8, 0x01#8, 0x01#8, 0x00#8, 0x00#8, 0xFF#8, 0xFF#8, 0x00#8, 0x00#8, 0x00#8, 0x01#8], 0x00040000#32) := by
  decide
-- Z6: the first block of 65536 bytes is not the last
theorem test_blockHeader_65536 :
    (State.reset.blockHeader 65536#32).outq = [0x00#8, 0xFF#8, 0xFF#8, 0x00#8, 0x00#8] := by decide
-- Z9: the third block of 160200 bytes
theorem test_blockHeader_29130 :
    (State.reset.blockHeader 29130#32).outq = [0x01#8, 0xCA#8, 0x71#8, 0x35#8, 0x8E#8] := by decide
-- Z12
theorem test_zData_ends_stream :
    (afterWord 0x410000FF#32 streamEnd).map (fun t => (t.outq.drop 11, t.zstat, t.adler)) =
      some ([0xFF#8, 0x01#8, 0xA4#8, 0x01#8, 0x3C#8], 0x00040000#32, 0x01A4013C#32) := by decide
-- Z19: the next block opens after the last byte of the old one
theorem test_zData_opens_block :
    (afterWord 0x410000AA#32 { blockEnd with outq := List.replicate 10 0#8 }).map
        (fun t => (t.outq.drop 10, t.zrem, t.zstat, t.adler)) =
      some ([0xAA#8, 0x01#8, 0x01#8, 0x00#8, 0xFE#8, 0xFF#8], 1#32, 0x00030001#32, 0x00AB00AB#32) := by decide
-- Z20
theorem test_zAbort : (afterWord 0x4F000000#32 streamEnd).map (fun t => (t.zstat, t.zrem, t.outq)) =
    some (0x00000000#32, 0#32, streamEnd.outq) := by decide

/-! The register window (Y3 to Y14). -/

-- Y3, and Y5: RSVD_NZ goes before ZSEQ
theorem test_illegal_word : (afterWord 0x50000000#32 State.reset).map State.status = some 0x00100011#32 := by decide
theorem test_reserved_before_state_check :
    (afterWord 0x41000100#32 State.reset).map State.status = some 0x00100021#32 := by decide
-- Z13, Z14
theorem test_zData_without_stream : (afterWord 0x41000000#32 State.reset).map State.status = some 0x00100031#32 := by
  decide
theorem test_zStart_twice : (afterWord 0x40000000#32 streamOpen).map State.status = some 0x00100731#32 := by decide
-- Y14
theorem test_second_error_keeps_code :
    (afterWord 0x50000000#32 { State.reset with err := true, ecode := 3#4 }).map State.status = some 0x00100033#32 := by
  decide
-- Y8
theorem test_write_read_only : (after (writeReg Config.vectors .result 5#32) State.reset).map State.status =
    some 0x00100061#32 := by decide
-- Y9: a 2-byte read at 0x26 returns 0 and pops nothing
theorem test_sized_read :
    (after (readSized Config.vectors 2 0x26) streamOpen).map (fun t => (t.readData, t.ecode, t.outq)) =
      some (some 0x00000000#32, 6#4, streamOpen.outq) := by decide
-- Y10
theorem test_read_reserved_offset : (after (readSized Config.vectors 4 0x28) State.reset).map State.ecode = some 6#4 := by
  decide
-- Y11, Y12
theorem test_read_out_empty : after (readOf Config.vectors .out) State.reset =
    some { State.reset with readData := some 0x00000000#32 } := by decide
theorem test_read_out : (after (readOf Config.vectors .out) streamOpen).map (fun t => (t.readData, t.outq.length)) =
    some (some 0x00000178#32, 6) := by decide
-- Y13
theorem test_read_cmd : readBack .cmd busy = some 0x00000000#32 := by decide
-- Z10's views
theorem test_read_zstat : readBack .zstat streamOpen = some 0x00030005#32 := by decide
theorem test_read_status : readBack .status streamOpen = some 0x00100700#32 := by decide
-- R34
theorem test_write_arg : (after (writeReg Config.vectors .arg 0xDEADBEEF#32) State.reset).bind (readBack .arg) =
    some 0xDEADBEEF#32 := by decide
-- R63: another window's access is not the block's
theorem test_outside_window : after (.write 64 4 0x0F000000#32) busy = some busy := by decide
-- R264
theorem test_idle : next? (step busy) = some busy := by decide

/-! Assembly (R97's examples) and the fixed names. -/

theorem test_assemble_character :
    assemble ⟨.crcByte, some (.character 'I')⟩ = some 0x11000049#32 := by decide
theorem test_assemble_no_operand : assemble ⟨.zStart, none⟩ = some 0x40000000#32 := by decide
theorem test_decodeTableWord : decodeTableWord 32 0x320000FE = some (.beDec 0xFE#8) := by decide
theorem test_withFetchWord : next? (step (State.reset.withFetchWord 32 0x20000000)) = some State.reset := by decide

/-! A witness for the hypotheses of each statement: a concrete state and operands that meet them. `busy` has a full
queue, the boundary of `QueueFits`. -/

/-- Other words with a command's OPC, which `HasOneWord` and `HasByteWords` speak of. -/
theorem witness_HasOneWord : opcOf 0x10000001#32 = opcOf 0x10000000#32 ∧ (0x10000001#32 : Word) ≠ 0x10000000#32 := by
  decide
theorem witness_HasByteWords : opcOf 0x11000100#32 = opcOf 0x11000000#32 ∧ rsvdOf 0x11000100#32 ≠ 0#16 := by decide

theorem witness_SresetIsTheResetInput : busy.QueueFits := by decide
theorem witness_NopChangesNothing : busy.QueueFits := by decide
theorem witness_ClrerrClearsTheErrorState : busy.QueueFits ∧ busy.err = true := by decide
theorem witness_CrcInitSetsTheAccumulator : busy.QueueFits := by decide
theorem witness_CrcByteFeedsOneByte : streamOpen.QueueFits := by decide
theorem witness_CrcFinalWritesResult : busy.QueueFits := by decide
theorem witness_CrcLookupReadsTheTable : busy.QueueFits := by decide
theorem witness_CrcCommandsComputeCrc32 : streamOpen.QueueFits := by decide
theorem witness_AdlInitStartsTheSums : (busy.QueueFits ∧ busy.zact = false) ∧ streamOpen.zact = true := by decide
theorem witness_AdlByteFeedsOneByte : (busy.QueueFits ∧ busy.zact = false) ∧ streamOpen.zact = true := by decide
theorem witness_AdlFinalWritesResult : streamOpen.QueueFits := by decide
theorem witness_AdlerUpdateIsExact : { busy with adlA := 65520#16, adlB := 65520#16 }.AdlerReduced := by decide
theorem witness_AdlerCommandsComputeAdler32 : busy.QueueFits ∧ busy.zact = false := by decide
/-- 12 bytes leave exactly room for 4, and 13 do not. -/
theorem witness_BeEncaPushesArg :
    { busy with outq := List.replicate 12 0#8 }.outq.length + 4 ≤ busy.config.outqDepth ∧
    busy.config.outqDepth < { busy with outq := List.replicate 13 0#8 }.outq.length + 4 := by decide
theorem witness_BeEncrPushesResult :
    { busy with outq := List.replicate 12 0#8 }.outq.length + 4 ≤ busy.config.outqDepth ∧
    busy.config.outqDepth < { busy with outq := List.replicate 13 0#8 }.outq.length + 4 := by decide
theorem witness_BeDecShiftsOneByteIn : busy.QueueFits := by decide
theorem witness_BeDclrClearsDec : busy.QueueFits := by decide
theorem witness_CodecEncodesAndDecodes :
    busy.QueueFits ∧ { busy with outq := List.replicate 12 0#8 }.outq.length + 4 ≤ busy.config.outqDepth := by decide
theorem witness_BlockHeaderOpensABlock : 1 ≤ (1#32 : Word).toNat ∧ 1 ≤ (0xFFFFFFFF#32 : Word).toNat := by decide
/-- In order: a stream open; N = 0 that just fits; N > 0 that just fits; N = 0 and N > 0 with one byte too many (Z15,
Z16). -/
theorem witness_ZStartOpensAStream :
    streamOpen.zact = true ∧
    (State.reset.zact = false ∧ State.reset.arg = 0#32 ∧
      { State.reset with outq := List.replicate 5 0#8 }.outq.length + 11 ≤ State.reset.config.outqDepth) ∧
    (busy.zact = false ∧ busy.arg ≠ 0#32 ∧
      { busy with outq := List.replicate 9 0#8 }.outq.length + 7 ≤ busy.config.outqDepth) ∧
    (State.reset.zact = false ∧ State.reset.arg = 0#32 ∧
      State.reset.config.outqDepth < { State.reset with outq := List.replicate 6 0#8 }.outq.length + 11) ∧
    (busy.zact = false ∧ busy.arg ≠ 0#32 ∧
      busy.config.outqDepth < { busy with outq := List.replicate 10 0#8 }.outq.length + 7) := by decide
/-- In order: no stream; within a block, the full queue's last byte; the stream's end and the block's end that just fit;
and the three with one byte too many. -/
theorem witness_ZDataFeedsOneByte :
    State.reset.zact = false ∧
    (streamOpen.zact = true ∧ 1 < { streamOpen with zblk := 2#16 }.zblk.toNat ∧
      { streamOpen with outq := List.replicate 15 0#8 }.outq.length + 1 ≤ streamOpen.config.outqDepth) ∧
    (streamEnd.zact = true ∧ streamEnd.zblk.toNat = 1 ∧ streamEnd.zrem.toNat = 1 ∧
      streamEnd.outq.length + 5 ≤ streamEnd.config.outqDepth) ∧
    (blockEnd.zact = true ∧ blockEnd.zblk.toNat = 1 ∧ 1 < blockEnd.zrem.toNat ∧
      { blockEnd with outq := List.replicate 10 0#8 }.outq.length + 6 ≤ blockEnd.config.outqDepth) ∧
    (streamOpen.zact = true ∧ 1 < streamOpen.zblk.toNat ∧
      streamOpen.config.outqDepth < { streamOpen with outq := List.replicate 16 0#8 }.outq.length + 1) ∧
    (streamEnd.zblk.toNat = 1 ∧ streamEnd.zrem.toNat = 1 ∧
      streamEnd.config.outqDepth < { streamEnd with outq := List.replicate 12 0#8 }.outq.length + 5) ∧
    (blockEnd.zact = true ∧ blockEnd.zblk.toNat = 1 ∧ 1 < blockEnd.zrem.toNat ∧
      blockEnd.config.outqDepth < blockEnd.outq.length + 6) := by decide
theorem witness_ZAbortAbandonsTheStream : streamOpen.QueueFits ∧ streamOpen.zact = true := by decide

/-- ARG = 1 and an empty queue: the start of vector Z2. -/
def oneByte : State := { State.reset with arg := 1#32 }

/-- Then Z.START, and one OUT read. -/
def oneByteRead : State :=
  ((zStartEffect oneByte).withQueue [0x01#8, 0x01#8, 0x01#8, 0x00#8, 0xFE#8, 0xFF#8]).returning 0x178#32

/-- Vector Z2 with an OUT read between its two commands: a framer run that meets the hypotheses of the stream law. -/
theorem witness_FramerEmitsTheZlibStream :
    [0x61#8].length ≤ 2 ^ 32 - 1 ∧ oneByte.arg = BitVec.ofNat 32 [0x61#8].length ∧
    ∃ (out₁ out₂ : List Byte) (s t : State),
      RunsPushing .zStart oneByte out₁ s ∧ FramerFeed s [0x61#8] out₂ t := by
  have feed : FramerFeed oneByteRead [0x61#8] _ (zDataEffect 0x61#8 oneByteRead) :=
    .data (out := [0x61#8, 0x00#8, 0x62#8, 0x00#8, 0x62#8]) ⟨by decide, rfl, by decide⟩ (.done _)
  exact ⟨by decide, rfl, [0x78#8, 0x01#8, 0x01#8, 0x01#8, 0x00#8, 0xFE#8, 0xFF#8], _, zStartEffect oneByte, _,
    ⟨by decide, rfl, by decide⟩, .between (e := readOf Config.vectors .out) (by decide) rfl feed⟩

/-- Vector Z2 with seven OUT reads between its two commands, which empty OUTQ. -/
theorem witness_DrainedStreamAlwaysCompletes :
    ([0x61#8].length ≤ 2 ^ 32 - 1 ∧ oneByte.arg = BitVec.ofNat 32 [0x61#8].length ∧ oneByte.zact = false ∧
      oneByte.outq = []) ∧
    ∃ (s t : State) (errors : List (Option ErrorCode)),
      exec .zStart oneByte = .next s ∧ DrainedFeed s [0x61#8] errors t := by
  have read {s s' t : State} {errors : List (Option ErrorCode)} (hc : s.config = Config.vectors)
      (h : react (readOf Config.vectors .out) s = .next s') (f : DrainedFeed s' [0x61#8] errors t) :
      DrainedFeed s [0x61#8] errors t :=
    .between (e := readOf Config.vectors .out) (by rw [hc]; decide) (by rw [hc]; decide) h f
  exact ⟨by decide, _, _, _, rfl, read rfl rfl <| read rfl rfl <| read rfl rfl <| read rfl rfl <| read rfl rfl <|
    read rfl rfl <| read rfl rfl <| .data rfl rfl (.done _)⟩
theorem witness_BlocksAreSplitGreedily : [0x61#8] ≠ [] := by decide
theorem witness_OtherCommandsLeaveTheFramerAlone :
    streamOpen.QueueFits ∧ streamOpen.zact = true ∧
    Instr.beDclr ∈ [Instr.crcInit, .crcFinal, .adlFinal, .beDclr, .nop, .clrerr] := by decide
/-- One state for each row of R184's table. -/
theorem witness_PushCountsAreExact :
    (State.reset.FramerOk ∧ commandError .beEnca State.reset = none ∧ commandError .beEncr State.reset = none) ∧
    (commandError .zStart State.reset = none ∧ State.reset.arg = 0#32) ∧
    (oneByte.FramerOk ∧ commandError .zStart oneByte = none ∧ oneByte.arg ≠ 0#32) ∧
    (streamOpen.FramerOk ∧ commandError (.zData 0#8) streamOpen = none ∧ 1 < streamOpen.zblk.toNat) ∧
    (streamEnd.FramerOk ∧ commandError (.zData 0#8) streamEnd = none ∧ streamEnd.zrem.toNat = 1) ∧
    ({ blockEnd with outq := [] }.FramerOk ∧ commandError (.zData 0#8) { blockEnd with outq := [] } = none ∧
      1 < blockEnd.zrem.toNat) ∧
    (busy.FramerOk ∧ commandError .nop busy = none) :=
  ⟨by decide, by decide, by decide, by decide, by decide, by decide, by decide⟩
theorem witness_DrainingToElevenFreeSuffices :
    { busy with outq := List.replicate 5 0#8 }.outq.length + 11 ≤ busy.config.outqDepth := by decide
theorem witness_EncodeInvertsDecode : decode 0x410000FF#32 = .ok (.zData 0xFF#8) := by decide
theorem witness_DecodeIsTotalInTheOrderOfR93 :
    decode 0x50000000#32 = .error .illegalOp ∧ decode 0x41000100#32 = .error .rsvdNz ∧
    decode 0x4F000001#32 = .error .rsvdNz ∧ decode 0x410000FF#32 = .ok (.zData 0xFF#8) := by decide
theorem witness_DecodeFollowsTheOpcodeMap :
    (⟨.zData, 0x41000000#32, 0xFFFFFF00#32⟩ : OpcodeRow) ∈ opcodeMap ∧
    OpcodeRow.matchesWord ⟨.zData, 0x41000000#32, 0xFFFFFF00#32⟩ 0x410000FF#32 = true := by decide
theorem witness_AssemblyProducesTheCommandWord :
    SourceLine.wellFormed ⟨.zData, some (.number 255)⟩ = true ∧
    SourceLine.wellFormed ⟨.zData, some (.number 256)⟩ = false := by decide
theorem witness_ErrorRecordingKeepsTheFirstCode : State.reset.err = false ∧ busy.err = true := by decide
/-- In order: an access that is not well-formed; a write to a read-only register (the last before the reserved offsets);
a reserved OPC; a reserved bit; ZSEQ both ways; ADL_BUSY; a full queue; and a command with room. -/
theorem witness_FirstFailedCheckIsTheErrorRaised :
    ¬(4 = 4 ∧ 0x28 % 4 = 0 ∧ 0x28 ≤ 0x24) ∧ (0x24 ≠ 0x00 ∧ 0x24 ≠ 0x04 ∧ 0x24 < 64) ∧
    opcOf 0x50000000#32 ∉ definedOpcs ∧
    (opcOf 0x41000100#32 ∈ definedOpcs ∧ rsvdOf 0x41000100#32 ≠ 0#16) ∧
    (opcOf 0x4F000001#32 ∈ definedOpcs ∧ opcOf 0x4F000001#32 ∉ imm8Opcs ∧ imm8Of 0x4F000001#32 ≠ 0#8) ∧
    (decode 0x40000000#32 = .ok .zStart ∧ streamOpen.zact = true) ∧
    (decode 0x41000000#32 = .ok (.zData 0#8) ∧ State.reset.zact = false) ∧
    (decode 0x20000000#32 = .ok .adlInit ∧ streamOpen.zact = true) ∧
    (decode 0x30000000#32 = .ok .beEnca ∧ busy.config.outqDepth < busy.outq.length + pushCount .beEnca busy) ∧
    (decode 0x41000000#32 = .ok (.zData 0#8) ∧ streamEnd.zact = true ∧
      streamEnd.outq.length + pushCount (.zData 0#8) streamEnd ≤ streamEnd.config.outqDepth) := by decide
theorem witness_ErrorRecordIsSticky :
    ∃ t, step { busy with pending := [writeReg busy.config .result 5#32] } = .next t ∧ busy.err = true := ⟨_, rfl, rfl⟩
theorem witness_ErrorStateBlocksNothing :
    (readOf busy.config .out ≠ .read (busy.config.base + 0x20) 4 ∧ ∃ t, react (readOf busy.config .out) busy = .next t) ∧
    commandError (.zData 0x00#8) State.reset = some .zseq :=
  ⟨⟨by decide, _, rfl⟩, by decide⟩
theorem witness_RegisterAccessesActAsR61Says :
    State.reset.outq = [] ∧ { busy with outq := [0xAA#8] }.outq = [0xAA#8] := by decide
/-- In order: a size, an alignment and a reserved offset at the window's end; the first and the last read-only register;
the addresses next to the window on either side. -/
theorem witness_RefusedAccessesOnlyRecordBus :
    (3 ≠ 4 ∧ 0x00 < 64) ∧ (0x3F % 4 ≠ 0 ∧ 0x3F < 64) ∧ (0x28 ≤ 0x3C ∧ 0x3C < 64) ∧
    (0x08 ≤ 0x08 ∧ 0x08 % 4 = 0) ∧ (0x24 ≤ 0x24 ∧ 0x24 % 4 = 0) ∧
    63 < { busy with config := ⟨5, 1⟩ }.config.base ∧ { busy with config := ⟨5, 1⟩ }.config.base + 64 ≤ 128 := by decide
theorem witness_ReadsAreIdempotent : 0x20 % 4 = 0 ∧ 0x20 < 0x24 := by decide
theorem witness_RegisterFieldsStandWhereTheRulesSay :
    { busy with config := ⟨244, 0⟩, outq := List.replicate 255 0#8 }.QueueFits := by
  show (List.replicate 255 0#8).length ≤ 255
  rw [List.length_replicate]
theorem witness_StepRunsTheDecodedCommand :
    { busy with pending := [.write (busy.config.base + 0x00) 4 0x410000FF#32] }.pending =
      .write (busy.config.base + 0x00) 4 0x410000FF#32 :: [] ∧
    decode 0x410000FF#32 = .ok (.zData 0xFF#8) ∧ decode 0x50000000#32 = .error .illegalOp ∧ busy.pending = [] := by decide
theorem witness_CommandsWriteOnlyTheirOwnState :
    (∃ t, exec .crcFinal busy = .next t ∧ t.result ≠ busy.result) ∧
    ∃ t, exec (.zData 0x00#8) State.reset = .next t ∧ t.err ≠ State.reset.err :=
  ⟨⟨_, rfl, by decide⟩, _, rfl, by decide⟩
theorem witness_EveryStepKeepsTheInvariants :
    (streamEnd.Inv ∧ blockEnd.Inv ∧ busy.Inv) ∧
    ∃ t, step { streamEnd with pending := [writeReg streamEnd.config .cmd 0x410000FF#32] } = .next t :=
  ⟨⟨by decide, by decide, by decide⟩, _, rfl⟩

end Sys2Proof.Tests
end

section
/-! SUPPORT. What each command's effect does: the framer's effects case by case (R178, R179), how many bytes are pushed
(R184), and which elements of the state a command writes (R21, R23 to R30). Settles O49. -/

namespace Sys2Proof.Machine

/-! The framer's effects. -/

/-- R178 for an empty stream. -/
theorem zStartEffect_of_arg_zero {s : State} (h : s.arg = 0#32) :
    zStartEffect s = (((s.adlerInit.pushAll zlibHeader).pushAll [0x01#8, 0x00#8, 0x00#8, 0xFF#8, 0xFF#8]).pushAll
      (u32be 0x00000001#32)).setDone true := by
  simp [zStartEffect, h]

/-- R178 for a stream with data to come. -/
theorem zStartEffect_of_arg_ne_zero {s : State} (h : s.arg ≠ 0#32) :
    zStartEffect s = (((s.adlerInit.pushAll zlibHeader).setDone false).blockHeader s.arg).openStream s.arg := by
  simp [zStartEffect, h]

/-- R179 for a byte that is not the last of its block. -/
theorem zDataEffect_within_block (b : Byte) {s : State} (hblk : s.zblk ≠ 1#16) :
    zDataEffect b s = ((s.push b).adlerUpdate b).countDown := by
  have hleft : s.zblk - 1#16 ≠ 0#16 := sub_ne_zero.2 hblk
  simp [zDataEffect, hleft]

/-- R179 for the last byte of a block, with another block to follow. -/
theorem zDataEffect_ends_block (b : Byte) {s : State} (hblk : s.zblk = 1#16) (hrem : s.zrem ≠ 1#32) :
    zDataEffect b s = ((s.push b).adlerUpdate b).countDown.blockHeader (s.zrem - 1#32) := by
  have hleft : s.zrem - 1#32 ≠ 0#32 := sub_ne_zero.2 hrem
  simp [zDataEffect, hblk, hleft]

/-- R179 for the last byte of the stream. -/
theorem zDataEffect_ends_stream (b : Byte) {s : State} (hblk : s.zblk = 1#16) (hrem : s.zrem = 1#32) :
    zDataEffect b s = (((s.push b).adlerUpdate b).countDown.pushAll (u32be (s.adlerUpdate b).adler)).closeStream := by
  simp [zDataEffect, hblk, hrem, State.adler]

/-- Z.START in either case: the starting sums, and the elements it leaves alone (R178). -/
@[simp] theorem zStartEffect_frame (s : State) :
    (zStartEffect s).arg = s.arg ∧ (zStartEffect s).result = s.result ∧ (zStartEffect s).crc = s.crc ∧
    (zStartEffect s).adlA = 1#16 ∧ (zStartEffect s).adlB = 0#16 ∧ (zStartEffect s).dec = s.dec ∧
    (zStartEffect s).err = s.err ∧ (zStartEffect s).emult = s.emult ∧ (zStartEffect s).ecode = s.ecode ∧
    (zStartEffect s).config = s.config ∧ (zStartEffect s).pending = s.pending ∧
    (zStartEffect s).readData = s.readData := by
  by_cases harg : s.arg = 0#32
  · simp [zStartEffect_of_arg_zero harg]
  · simp [zStartEffect_of_arg_ne_zero harg]

/-- Z.DATA in every case: the updated sums, and the elements it leaves alone (R179). -/
@[simp] theorem zDataEffect_frame (b : Byte) (s : State) :
    (zDataEffect b s).arg = s.arg ∧ (zDataEffect b s).result = s.result ∧ (zDataEffect b s).crc = s.crc ∧
    (zDataEffect b s).adlA = (s.adlerUpdate b).adlA ∧ (zDataEffect b s).adlB = (s.adlerUpdate b).adlB ∧
    (zDataEffect b s).dec = s.dec ∧
    (zDataEffect b s).err = s.err ∧ (zDataEffect b s).emult = s.emult ∧ (zDataEffect b s).ecode = s.ecode ∧
    (zDataEffect b s).config = s.config ∧ (zDataEffect b s).pending = s.pending ∧
    (zDataEffect b s).readData = s.readData := by
  by_cases hblk : s.zblk = 1#16
  · by_cases hrem : s.zrem = 1#32
    · simp [zDataEffect_ends_stream b hblk hrem]
    · simp [zDataEffect_ends_block b hblk hrem]
  · simp [zDataEffect_within_block b hblk]

/-! How many bytes are pushed. -/

@[simp] theorem u32be_length (v : Word) : (u32be v).length = 4 := rfl

@[simp] theorem blockHeaderBytes_length (last : Bool) (len : Half) : (blockHeaderBytes last len).length = 5 := rfl

theorem zStartEffect_outq_length (s : State) :
    (zStartEffect s).outq.length = s.outq.length + pushCount .zStart s := by
  by_cases harg : s.arg = 0#32
  · simp [zStartEffect_of_arg_zero harg, pushCount, harg, zlibHeader]
  · simp [zStartEffect_of_arg_ne_zero harg, pushCount, harg, zlibHeader]

theorem zDataEffect_outq_length (b : Byte) (s : State) :
    (zDataEffect b s).outq.length = s.outq.length + pushCount (.zData b) s := by
  by_cases hblk : s.zblk = 1#16
  · by_cases hrem : s.zrem = 1#32
    · simp [zDataEffect_ends_stream b hblk hrem, pushCount, hblk, hrem]
    · simp [zDataEffect_ends_block b hblk hrem, pushCount, hblk, hrem]
  · simp [zDataEffect_within_block b hblk, pushCount, hblk]

/-- Every command but SRESET, which empties OUTQ, appends as many bytes as R184 counts. -/
theorem effectOf_outq_length {i : Instr} (hi : i ≠ .sreset) (s : State) :
    (effectOf i s).outq.length = s.outq.length + pushCount i s := by
  cases i with
  | sreset => exact absurd rfl hi
  | beEnca | beEncr => simp [effectOf, pushCount]
  | zStart => exact zStartEffect_outq_length s
  | zData b => exact zDataEffect_outq_length b s
  | _ => rfl

/-! The commands that may write an element of the state: for each command, its effect keeps the element or the command is
one of those the rule names. -/

section Writes

variable (i : Instr) (s : State)

theorem effectOf_writes_result :
    (effectOf i s).result ≠ s.result → i = .crcFinal ∨ (∃ n, i = .crcLookup n) ∨ i = .adlFinal ∨ i = .sreset := by
  cases i <;> simp [effectOf]

theorem effectOf_writes_crc :
    (effectOf i s).crc ≠ s.crc → i = .crcInit ∨ (∃ b, i = .crcByte b) ∨ i = .sreset := by
  cases i <;> simp [effectOf]

theorem effectOf_writes_adler :
    (effectOf i s).adlA ≠ s.adlA ∨ (effectOf i s).adlB ≠ s.adlB →
      i = .adlInit ∨ (∃ b, i = .adlByte b) ∨ i = .zStart ∨ (∃ b, i = .zData b) ∨ i = .sreset := by
  cases i <;> simp [effectOf]

theorem effectOf_writes_dec :
    (effectOf i s).dec ≠ s.dec → (∃ b, i = .beDec b) ∨ i = .beDclr ∨ i = .sreset := by
  cases i <;> simp [effectOf]

theorem effectOf_writes_framer :
    (effectOf i s).zact ≠ s.zact ∨ (effectOf i s).zrem ≠ s.zrem ∨ (effectOf i s).zblk ≠ s.zblk ∨
      (effectOf i s).zfin ≠ s.zfin ∨ (effectOf i s).zdone ≠ s.zdone →
      i = .zStart ∨ (∃ b, i = .zData b) ∨ i = .zAbort ∨ i = .sreset := by
  cases i <;> simp [effectOf]

theorem effectOf_writes_outq :
    (effectOf i s).outq ≠ s.outq →
      i = .beEnca ∨ i = .beEncr ∨ i = .zStart ∨ (∃ b, i = .zData b) ∨ i = .sreset := by
  cases i <;> simp [effectOf]

theorem effectOf_writes_arg : (effectOf i s).arg ≠ s.arg → i = .sreset := by
  cases i <;> simp [effectOf]

theorem effectOf_writes_errors :
    (effectOf i s).err ≠ s.err ∨ (effectOf i s).emult ≠ s.emult ∨ (effectOf i s).ecode ≠ s.ecode →
      i = .clrerr ∨ i = .sreset := by
  cases i <;> simp [effectOf]

/-- No command writes the fields that are the model's own (log entries 1, 4 and 5). -/
theorem effectOf_keeps_host :
    (effectOf i s).config = s.config ∧ (effectOf i s).pending = s.pending ∧
      (effectOf i s).readData = s.readData := by
  cases i <;> simp [effectOf]

end Writes

/-- Settles O49: a command either has its effect, whose writes are listed element by element, or only records its
error. -/
theorem commandsWriteOnlyTheirOwnState : Obligations.CommandsWriteOnlyTheirOwnState := by
  unfold Obligations.CommandsWriteOnlyTheirOwnState
  intro i s t h
  rcases exec_cases h with ⟨-, rfl⟩ | ⟨c, hc, rfl⟩
  · exact ⟨effectOf_writes_result i s, effectOf_writes_crc i s, effectOf_writes_adler i s, effectOf_writes_dec i s,
      effectOf_writes_framer i s, effectOf_writes_outq i s, effectOf_writes_arg i s,
      fun herr => .inr (effectOf_writes_errors i s herr), effectOf_keeps_host i s⟩
  · simp [hc]

end Sys2Proof.Machine
end

section
/-! SUPPORT. One step, and the execution of a command word (R67, R72, R94, R264). Settles O48. -/

namespace Sys2Proof.Machine

theorem step_of_pending_nil {s : State} (h : s.pending = []) : step s = .next s := by
  rw [step, h]

theorem step_of_pending_cons {s : State} {e : HostEvent} {rest : List HostEvent} (h : s.pending = e :: rest) :
    step s = react e (s.taking rest) := by
  rw [step, h]

theorem step_of_cmdWrite {s : State} {w : Word} {rest : List HostEvent}
    (h : s.pending = cmdWrite s.config w :: rest) : step s = execute w (s.taking rest) := by
  rw [step_of_pending_cons h]
  exact react_cmdWrite (s.taking rest) w

theorem execute_of_decode_ok {w : Word} {i : Instr} (h : decode w = .ok i) (s : State) : execute w s = exec i s := by
  rw [execute, h]

theorem execute_of_decode_error {w : Word} {e : DecodeError} (h : decode w = .error e) (s : State) :
    execute w s = .next (s.recordError (errorOfDecode e)) := by
  rw [execute, h]
  rfl

/-- Settles O48, from the equations of `step` and `execute`. -/
theorem stepRunsTheDecodedCommand : Obligations.StepRunsTheDecodedCommand := by
  unfold Obligations.StepRunsTheDecodedCommand
  refine ⟨fun s w i rest hp hd => ?_, fun s w e rest hp hd => ?_, fun s e rest hp => step_of_pending_cons hp,
    fun s hp => step_of_pending_nil hp⟩
  · rw [step_of_cmdWrite hp, execute_of_decode_ok hd, State.taking]
  · rw [step_of_cmdWrite hp, execute_of_decode_error hd, State.taking]

end Sys2Proof.Machine
end

section
/-! SUPPORT. The invariants of the block's state (R26, R28, R29, R30): what each command's effect, the recording of an
error and each event do to them. Settles O51. -/

namespace Sys2Proof.Machine

/-! The Adler sums (R26). -/

theorem adlerInit_reduced (s : State) : s.adlerInit.AdlerReduced := by
  simp [State.AdlerReduced]

/-- The update reduces the sums whatever they were (R131, R133). -/
theorem adlerUpdate_reduced (b : Byte) (s : State) : (s.adlerUpdate b).AdlerReduced := by
  simp only [State.AdlerReduced, State.adlerUpdate_adlA, State.adlerUpdate_adlB, adlerA_toNat, adlerB_toNat]
  omega

theorem effectOf_keeps_adlerReduced (i : Instr) {s : State} (h : s.AdlerReduced) :
    (effectOf i s).AdlerReduced := by
  cases i with
  | adlInit => exact adlerInit_reduced s
  | adlByte b => exact adlerUpdate_reduced b s
  | zStart => simp [effectOf, State.AdlerReduced]
  | zData b => simpa [effectOf, State.AdlerReduced] using adlerUpdate_reduced b s
  | sreset => simp [effectOf, State.AdlerReduced]
  | _ => exact h

/-! OUTQ (R29). -/

/-- R94's room check is enough: a command that passes it pushes no more than R184 counts. -/
theorem effectOf_queueFits {i : Instr} {s : State} (hc : commandError i s = none) : (effectOf i s).QueueFits := by
  obtain ⟨-, hroom⟩ := commandError_none_iff.1 hc
  obtain ⟨hconfig, -, -⟩ := effectOf_keeps_host i s
  by_cases hi : i = .sreset
  · simp [hi, effectOf, State.QueueFits]
  · rwa [State.QueueFits, effectOf_outq_length hi, hconfig]

/-! The framer (R28). -/

theorem framerOk_of_idle {s : State} (hact : s.zact = false) (hrem : s.zrem = 0#32) (hblk : s.zblk = 0#16)
    (hfin : s.zfin = false) : s.FramerOk := by
  simp [State.FramerOk, *]

theorem framerOk_of_open {s : State} (hact : s.zact = true) (hdone : s.zdone = false) (hpos : 1 ≤ s.zblk.toNat)
    (hle : s.zblk.toNat ≤ s.zrem.toNat) (hfin : s.zfin = true ↔ s.zrem.toNat = s.zblk.toNat) : s.FramerOk :=
  ⟨by simp [hact], fun _ => ⟨hpos, Nat.le_of_lt_succ s.zblk.isLt, hle, hfin⟩, by simp [hdone]⟩

/-- A block that has just opened with `ZREM` bytes to come meets R28, by the block-length control of R177. -/
theorem framerOk_of_block_opened {s : State} (hact : s.zact = true) (hdone : s.zdone = false)
    (hrem : s.zrem ≠ 0#32) (hblk : s.zblk = blockLength s.zrem) (hfin : s.zfin = blockIsLast s.zrem) :
    s.FramerOk := by
  have hpos : s.zrem.toNat ≠ 0 := fun h => hrem (BitVec.eq_of_toNat_eq h)
  have hlen : s.zblk.toNat = min s.zrem.toNat 65535 := by rw [hblk, blockLength_toNat]
  refine framerOk_of_open hact hdone (by omega) (by omega) ?_
  rw [hfin, blockIsLast_iff]
  omega

theorem zStartEffect_keeps_framerOk {s : State} (hact : s.zact = false) (h : s.FramerOk) :
    (zStartEffect s).FramerOk := by
  obtain ⟨hidle, -, -⟩ := h
  obtain ⟨hrem, hblk, hfin⟩ := hidle hact
  by_cases harg : s.arg = 0#32
  · rw [zStartEffect_of_arg_zero harg]
    exact framerOk_of_idle hact hrem hblk hfin
  · rw [zStartEffect_of_arg_ne_zero harg]
    exact framerOk_of_block_opened rfl rfl harg rfl rfl

theorem zDataEffect_keeps_framerOk (b : Byte) {s : State} (hact : s.zact = true) (h : s.FramerOk) :
    (zDataEffect b s).FramerOk := by
  obtain ⟨-, hopen, hnotBoth⟩ := h
  obtain ⟨hpos, -, hle, hfin⟩ := hopen hact
  have hdone : s.zdone = false := by simpa [hact] using hnotBoth
  by_cases hblk : s.zblk = 1#16
  · by_cases hrem : s.zrem = 1#32
    · rw [zDataEffect_ends_stream b hblk hrem]
      exact framerOk_of_idle rfl (by simp [hrem]) (by simp [hblk]) rfl
    · rw [zDataEffect_ends_block b hblk hrem]
      exact framerOk_of_block_opened hact hdone (sub_ne_zero.2 hrem) rfl rfl
  · rw [zDataEffect_within_block b hblk]
    have hne : s.zblk.toNat ≠ 1 := fun h1 => hblk (BitVec.eq_of_toNat_eq h1)
    have hblk' : (s.zblk - 1#16).toNat = s.zblk.toNat - 1 := BitVec.toNat_sub_of_le hpos
    have hrem' : (s.zrem - 1#32).toNat = s.zrem.toNat - 1 := BitVec.toNat_sub_of_le (Nat.le_trans hpos hle)
    refine framerOk_of_open hact hdone ?_ ?_ ?_
    · show 1 ≤ (s.zblk - 1#16).toNat
      omega
    · show (s.zblk - 1#16).toNat ≤ (s.zrem - 1#32).toNat
      omega
    · show s.zfin = true ↔ (s.zrem - 1#32).toNat = (s.zblk - 1#16).toNat
      rw [hfin]
      omega

theorem effectOf_keeps_framerOk {i : Instr} {s : State} (hc : stateCheck i s = none) (h : s.FramerOk) :
    (effectOf i s).FramerOk := by
  cases i with
  | zStart => exact zStartEffect_keeps_framerOk (by simpa [stateCheck] using hc) h
  | zData b => exact zDataEffect_keeps_framerOk b (by simpa [stateCheck] using hc) h
  | zAbort => exact framerOk_of_idle rfl rfl rfl rfl
  | sreset => exact framerOk_of_idle rfl rfl rfl rfl
  | _ => exact h

/-! The error record (R222, log entry 13). -/

theorem ErrorCode.code_bounds (c : ErrorCode) : 1 ≤ c.code.toNat ∧ c.code.toNat ≤ 6 := by
  cases c <;> decide

theorem recordError_keeps_errorsOk (c : ErrorCode) {s : State} (h : s.ErrorsOk) : (s.recordError c).ErrorsOk := by
  obtain ⟨-, hcode⟩ := h
  cases herr : s.err with
  | false => simpa [State.ErrorsOk, herr] using c.code_bounds
  | true => simpa [State.ErrorsOk, herr] using hcode herr

theorem effectOf_keeps_errorsOk (i : Instr) {s : State} (h : s.ErrorsOk) : (effectOf i s).ErrorsOk := by
  cases i with
  | clrerr => simp [effectOf, State.ErrorsOk]
  | sreset => simp [effectOf, State.ErrorsOk]
  | zStart => simpa [effectOf, State.ErrorsOk] using h
  | zData b => simpa [effectOf, State.ErrorsOk] using h
  | _ => exact h

/-! All of them together. -/

theorem recordError_keeps_inv (c : ErrorCode) {s : State} (h : s.Inv) : (s.recordError c).Inv := by
  obtain ⟨hadler, hqueue, hframer, herrors⟩ := h
  exact ⟨by simpa [State.AdlerReduced] using hadler, by simpa using hqueue, by simpa [State.FramerOk] using hframer,
    recordError_keeps_errorsOk c herrors⟩

theorem resetBlock_inv (s : State) : s.resetBlock.Inv := by
  simp [State.Inv, State.AdlerReduced, State.QueueFits, State.FramerOk, State.ErrorsOk]

theorem withQueue_tail_keeps_inv {s : State} {b : Byte} {rest : List Byte} (hq : s.outq = b :: rest) (h : s.Inv) :
    (s.withQueue rest).Inv := by
  obtain ⟨hadler, hqueue, hframer, herrors⟩ := h
  have hlen : rest.length + 1 ≤ s.config.outqDepth := by simpa [hq] using hqueue
  exact ⟨hadler, Nat.le_of_succ_le hlen, hframer, herrors⟩

theorem effectOf_keeps_inv {i : Instr} {s : State} (hc : commandError i s = none) (h : s.Inv) :
    (effectOf i s).Inv := by
  obtain ⟨hadler, -, hframer, herrors⟩ := h
  obtain ⟨hcheck, -⟩ := commandError_none_iff.1 hc
  exact ⟨effectOf_keeps_adlerReduced i hadler, effectOf_queueFits hc, effectOf_keeps_framerOk hcheck hframer,
    effectOf_keeps_errorsOk i herrors⟩

theorem exec_keeps_inv {i : Instr} {s t : State} (he : exec i s = .next t) (h : s.Inv) :
    t.Inv ∧ t.config = s.config := by
  rcases exec_cases he with ⟨hc, rfl⟩ | ⟨c, -, rfl⟩
  · obtain ⟨hconfig, -, -⟩ := effectOf_keeps_host i s
    exact ⟨effectOf_keeps_inv hc h, hconfig⟩
  · exact ⟨recordError_keeps_inv c h, State.recordError_config s c⟩

/-- The cases are those of `react_cases`; no invariant speaks of ARG or of the value returned. -/
theorem react_keeps_inv {e : HostEvent} {s t : State} (he : react e s = .next t) (h : s.Inv) :
    t.Inv ∧ t.config = s.config := by
  rcases react_cases he with rfl | ⟨c, rfl⟩ | ⟨v, rfl⟩ | ⟨i, hi, -⟩ | ⟨v, rfl⟩ | ⟨c, v, rfl⟩ |
    ⟨b, rest, hq, rfl⟩ | ⟨-, rfl⟩
  · exact ⟨h, rfl⟩
  · exact ⟨recordError_keeps_inv c h, State.recordError_config s c⟩
  · exact ⟨h, rfl⟩
  · exact exec_keeps_inv hi h
  · exact ⟨h, rfl⟩
  · exact ⟨recordError_keeps_inv c h, State.recordError_config s c⟩
  · have hpop : (s.withQueue rest).Inv := withQueue_tail_keeps_inv hq h
    exact ⟨hpop, rfl⟩
  · exact ⟨resetBlock_inv s, rfl⟩

/-- Settles O51: an idle step changes nothing, and any other is the reaction to one event; no
invariant speaks of what is pending or returned. -/
theorem everyStepKeepsTheInvariants : Obligations.EveryStepKeepsTheInvariants := by
  unfold Obligations.EveryStepKeepsTheInvariants
  intro s t h hs
  rcases hp : s.pending with _ | ⟨e, rest⟩
  · rw [step_of_pending_nil hp] at hs
    cases hs
    exact ⟨h, rfl⟩
  · rw [step_of_pending_cons hp] at hs
    exact react_keeps_inv (s := s.taking rest) hs h

end Sys2Proof.Machine
end

section
/-! SUPPORT. A register word as the sum of its fields, each at its place, from which every field and every zero bit reads
off by division (R37, R40, R41, R43). Settles O47. -/

namespace Sys2Proof.Machine

/-! Words packed from fields, and the fields of a word. -/

/-- The word `hi ||| lo` is a sum where `lo` lies below bit `k` and `hi` has nothing there. -/
theorem toNat_or_of_disjoint {hi lo : Word} {a b : Nat} (k : Nat) (ha : hi.toNat = a) (hb : lo.toNat = b)
    (hdvd : 2 ^ k ∣ a) (hlt : b < 2 ^ k) : (hi ||| lo).toNat = a + b := by
  obtain ⟨m, rfl⟩ := hdvd
  rw [BitVec.toNat_or, ha, hb, Nat.two_pow_add_eq_or_of_lt hlt]

theorem setWidth_shiftLeft_toNat {n k : Nat} (v : BitVec n) (h : n + k ≤ 32) :
    (v.setWidth 32 <<< k).toNat = v.toNat * 2 ^ k := by
  have hlt : v.toNat * 2 ^ k < 2 ^ 32 :=
    calc v.toNat * 2 ^ k < 2 ^ n * 2 ^ k := Nat.mul_lt_mul_of_pos_right v.isLt (Nat.two_pow_pos k)
      _ = 2 ^ (n + k) := (Nat.pow_add 2 n k).symm
      _ ≤ 2 ^ 32 := Nat.pow_le_pow_right (by decide) h
  rw [BitVec.toNat_shiftLeft, BitVec.toNat_setWidth_of_le (by omega), Nat.shiftLeft_eq, Nat.mod_eq_of_lt hlt]

theorem ofNat_shiftLeft_toNat {n k : Nat} (h : n * 2 ^ k < 2 ^ 32) :
    (BitVec.ofNat 32 n <<< k).toNat = n * 2 ^ k := by
  have hn : n < 2 ^ 32 := Nat.lt_of_le_of_lt (Nat.le_mul_of_pos_right n (Nat.two_pow_pos k)) h
  rw [BitVec.toNat_shiftLeft, BitVec.toNat_ofNat, Nat.mod_eq_of_lt hn, Nat.shiftLeft_eq, Nat.mod_eq_of_lt h]

theorem flagBit_toNat (f : Bool) : (flagBit f).toNat = f.toNat := by cases f <;> rfl

theorem flagBit_shiftLeft_toNat (f : Bool) {k : Nat} (hk : k < 32) : (flagBit f <<< k).toNat = f.toNat * 2 ^ k := by
  rw [flagBit, setWidth_shiftLeft_toNat _ (by omega), BitVec.toNat_ofBool]

theorem extractLsb'_toNat_eq_div_mod (w : Word) (k n : Nat) :
    (w.extractLsb' k n).toNat = w.toNat / 2 ^ k % 2 ^ n := by
  rw [BitVec.extractLsb'_toNat, Nat.shiftRight_eq_div_pow]

theorem extractLsb'_eq_iff {w : Word} {k n : Nat} {v : BitVec n} :
    w.extractLsb' k n = v ↔ w.toNat / 2 ^ k % 2 ^ n = v.toNat := by
  rw [← BitVec.toNat_inj, extractLsb'_toNat_eq_div_mod]

theorem getLsbD_eq_iff {w : Word} {k : Nat} {f : Bool} : w.getLsbD k = f ↔ w.toNat / 2 ^ k % 2 = f.toNat := by
  rw [BitVec.getLsbD, Nat.testBit_eq_decide_div_mod_eq]
  cases f <;> simp

/-! The register words as sums. -/

theorem adler_toNat (s : State) : s.adler.toNat = s.adlB.toNat * 2 ^ 16 + s.adlA.toNat :=
  toNat_or_of_disjoint 16 (setWidth_shiftLeft_toNat s.adlB (by decide))
    (BitVec.toNat_setWidth_of_le (by decide)) (Nat.dvd_mul_left _ _) s.adlA.isLt

theorem zstat_toNat (s : State) :
    s.zstat.toNat = s.zdone.toNat * 2 ^ 18 + s.zfin.toNat * 2 ^ 17 + s.zact.toNat * 2 ^ 16 + s.zblk.toNat := by
  have hdone := flagBit_shiftLeft_toNat s.zdone (k := 18) (by decide)
  have hfin := flagBit_shiftLeft_toNat s.zfin (k := 17) (by decide)
  have hact := flagBit_shiftLeft_toNat s.zact (k := 16) (by decide)
  have hblk : (s.zblk.setWidth 32 : Word).toNat = s.zblk.toNat := BitVec.toNat_setWidth_of_le (by decide)
  have := s.zfin.toNat_lt
  have := s.zact.toNat_lt
  refine toNat_or_of_disjoint 16 (toNat_or_of_disjoint 17 (toNat_or_of_disjoint 18 hdone hfin ?_ ?_) hact ?_ ?_)
    hblk ?_ ?_ <;> omega

/-- The queue's length is at most OUTQ_DEPTH, so at most 255, and OUTCNT stays below bit 16 (R8, R29). -/
theorem status_toNat {s : State} (h : s.QueueFits) :
    s.status.toNat = s.config.outqDepth * 2 ^ 16 + s.outq.length * 2 ^ 8 + s.ecode.toNat * 2 ^ 4 +
      s.emult.toNat * 2 ^ 1 + s.err.toNat := by
  obtain ⟨-, hmax⟩ := config_depth_bounds s.config
  have hdepth := ofNat_shiftLeft_toNat (n := s.config.outqDepth) (k := 16) (by omega)
  have hcount := ofNat_shiftLeft_toNat (n := s.outq.length) (k := 8) (by omega)
  have hcode := setWidth_shiftLeft_toNat s.ecode (k := 4) (by decide)
  have hmult := flagBit_shiftLeft_toNat s.emult (k := 1) (by decide)
  have herr := flagBit_toNat s.err
  have := s.ecode.isLt
  have := s.emult.toNat_lt
  have := s.err.toNat_lt
  refine toNat_or_of_disjoint 1 (toNat_or_of_disjoint 4 (toNat_or_of_disjoint 8
    (toNat_or_of_disjoint 16 hdepth hcount ?_ ?_) hcode ?_ ?_) hmult ?_ ?_) herr ?_ ?_ <;> omega

/-! Their fields. -/

/-- R37. -/
theorem adler_fields (s : State) : s.adler.extractLsb' 16 16 = s.adlB ∧ s.adler.extractLsb' 0 16 = s.adlA := by
  have := s.adlA.isLt
  have := s.adlB.isLt
  simp only [extractLsb'_eq_iff, adler_toNat]
  omega

/-- R40, R43. -/
theorem zstat_fields (s : State) :
    s.zstat.extractLsb' 19 13 = 0#13 ∧ s.zstat.getLsbD 18 = s.zdone ∧ s.zstat.getLsbD 17 = s.zfin ∧
    s.zstat.getLsbD 16 = s.zact ∧ s.zstat.extractLsb' 0 16 = s.zblk := by
  have := s.zblk.isLt
  have := s.zdone.toNat_lt
  have := s.zfin.toNat_lt
  have := s.zact.toNat_lt
  simp only [extractLsb'_eq_iff, getLsbD_eq_iff, zstat_toNat, BitVec.toNat_ofNat]
  omega

/-- R41, R43. -/
theorem status_fields {s : State} (h : s.QueueFits) :
    s.status.extractLsb' 24 8 = 0#8 ∧ (s.status.extractLsb' 16 8).toNat = s.config.outqDepth ∧
    (s.status.extractLsb' 8 8).toNat = s.outq.length ∧ s.status.extractLsb' 4 4 = s.ecode ∧
    s.status.extractLsb' 2 2 = 0#2 ∧ s.status.getLsbD 1 = s.emult ∧ s.status.getLsbD 0 = s.err := by
  obtain ⟨-, hmax⟩ := config_depth_bounds s.config
  have := s.ecode.isLt
  have := s.emult.toNat_lt
  have := s.err.toNat_lt
  simp only [extractLsb'_eq_iff, extractLsb'_toNat_eq_div_mod, getLsbD_eq_iff, status_toNat h, BitVec.toNat_ofNat]
  omega

/-- Settles O47, register by register. -/
theorem registerFieldsStandWhereTheRulesSay : Obligations.RegisterFieldsStandWhereTheRulesSay := by
  unfold Obligations.RegisterFieldsStandWhereTheRulesSay
  intro s h
  obtain ⟨hB, hA⟩ := adler_fields s
  obtain ⟨hzero, hdone, hfin, hact, hblk⟩ := zstat_fields s
  exact ⟨hB, hA, hzero, hdone, hfin, hact, hblk, status_fields h⟩

end Sys2Proof.Machine
end

section
/-! SUPPORT. What an access to the register window does: a refused access, a write to each register, a read of each
register (R42, R61 to R66). Settles O44, O45 and O46. -/

namespace Sys2Proof.Machine

/-! Accesses that are refused, or that are not the block's. -/

theorem accessWellFormed_iff {off size : Nat} :
    accessWellFormed off size = true ↔ size = 4 ∧ off % 4 = 0 ∧ off ≤ 0x24 := by
  simp [accessWellFormed, accessSizeOk, accessAligned, accessMapped, and_assoc]

theorem busWrite_of_not_wellFormed {off size : Nat} (h : accessWellFormed off size = false) (v : Word) (s : State) :
    busWrite off size v s = .next (s.recordError .bus) := by
  rw [busWrite, if_pos h, raise]

theorem busRead_of_not_wellFormed {off size : Nat} (h : accessWellFormed off size = false) (s : State) :
    busRead off size s = (0x00000000#32, s.recordError .bus) := by
  rw [busRead, if_pos h]

theorem inWindow_eq_false {c : Config} {addr : Nat} (h : addr < c.base ∨ c.base + 64 ≤ addr) :
    inWindow c addr = false := by
  rw [Bool.eq_false_iff, Ne, inWindow_iff]
  omega

theorem react_write_outside {s : State} {addr : Nat} (h : inWindow s.config addr = false) (size : Nat) (v : Word) :
    react (.write addr size v) s = .next s := by
  simp [react, h]

theorem react_read_outside {s : State} {addr : Nat} (h : inWindow s.config addr = false) (size : Nat) :
    react (.read addr size) s = .next s := by
  simp [react, h]

/-! Writes to the registers (R61, R64). -/

theorem busWrite_arg (v : Word) (s : State) : busWrite Reg.arg.offset 4 v s = .next { s with arg := v } := rfl

theorem busWrite_readOnly {r : Reg} (hr : 0x08 ≤ r.offset) (v : Word) (s : State) :
    busWrite r.offset 4 v s = .next (s.recordError .bus) := by
  cases r with
  | cmd => exact absurd hr (by decide)
  | arg => exact absurd hr (by decide)
  | _ => rfl

/-! Reads of the registers (R42, R61, R66). -/

theorem busRead_offset (r : Reg) (s : State) : busRead r.offset 4 s = readReg r s := by
  simp [busRead, accessWellFormed_offset, regAt_offset]

theorem react_readOf (r : Reg) (s : State) :
    react (readOf s.config r) s = .next ((readReg r s).2.returning (readReg r s).1) := by
  rw [readOf, react_read_base (offset_lt r), busRead_offset]

theorem readReg_out_nil {s : State} (h : s.outq = []) : readReg .out s = (0x00000000#32, s) := by
  rw [readReg, readOut, pop?_nil h]

theorem readReg_out_cons {s : State} {b : Byte} {rest : List Byte} (h : s.outq = b :: rest) :
    readReg .out s = (outWord b, s.withQueue rest) := by
  rw [readReg, readOut, pop?_cons h]

theorem react_readOf_out_nil {s : State} (h : s.outq = []) :
    react (readOf s.config .out) s = .next (s.returning 0x00000000#32) := by
  rw [react_readOf, readReg_out_nil h]

theorem react_readOf_out_cons {s : State} {b : Byte} {rest : List Byte} (h : s.outq = b :: rest) :
    react (readOf s.config .out) s = .next ((s.withQueue rest).returning (outWord b)) := by
  rw [react_readOf, readReg_out_cons h]

/-- Only the read of OUT has a side effect (R66). -/
theorem readReg_keeps_state {r : Reg} (hr : r ≠ .out) (s : State) : (readReg r s).2 = s := by
  cases r with
  | out => exact absurd rfl hr
  | _ => rfl

/-- No register shows the value returned to the last access. -/
theorem readReg_returning {r : Reg} (hr : r ≠ .out) (s : State) (v : Word) :
    (readReg r (s.returning v)).1 = (readReg r s).1 := by
  cases r with
  | out => exact absurd rfl hr
  | _ => rfl

theorem react_readOf_ne_out {r : Reg} (hr : r ≠ .out) (s : State) :
    react (readOf s.config r) s = .next (s.returning (readReg r s).1) := by
  rw [react_readOf, readReg_keeps_state hr]

theorem react_readOf_twice {r : Reg} (hr : r ≠ .out) (s : State) (v : Word) :
    react (readOf s.config r) (s.returning v) = .next (s.returning (readReg r s).1) := by
  have h := react_readOf_ne_out hr (s.returning v)
  rwa [readReg_returning hr] at h

/-- Settles O45: a refused access is not well-formed or writes a read-only register, and an access outside the window
never reaches a register. -/
theorem refusedAccessesOnlyRecordBus : Obligations.RefusedAccessesOnlyRecordBus := by
  unfold Obligations.RefusedAccessesOnlyRecordBus
  refine ⟨fun s off size v hoff hbad => ?_, fun s off v hlo hhi halign => ?_, fun s addr size v hout => ?_⟩
  · have hwf : accessWellFormed off size = false := by
      rw [Bool.eq_false_iff, Ne, accessWellFormed_iff]
      omega
    rw [react_write_base hoff, react_read_base hoff, busWrite_of_not_wellFormed hwf, busRead_of_not_wellFormed hwf]
    exact ⟨rfl, rfl⟩
  · obtain ⟨r, -, rfl, -⟩ := regAt_of_wellFormed (accessWellFormed_iff.2 ⟨rfl, halign, hhi⟩)
    rw [react_write_base (offset_lt r), busWrite_readOnly hlo]
  · have hwin : inWindow s.config addr = false := inWindow_eq_false hout
    exact ⟨react_write_outside hwin size v, react_read_outside hwin size⟩

/-- Settles O44: the write to CMD, the write to ARG, the reads in the order of the map, and the read of OUT on an empty
and on a non-empty queue. -/
theorem registerAccessesActAsR61Says : Obligations.RegisterAccessesActAsR61Says := by
  unfold Obligations.RegisterAccessesActAsR61Says
  intro s v
  have harg : react (.write (s.config.base + Reg.arg.offset) 4 v) s = .next { s with arg := v } := by
    rw [react_write_base (offset_lt .arg), busWrite_arg]
  exact ⟨react_cmdWrite s v, harg, react_readOf .cmd s, react_readOf .arg s, react_readOf .result s,
    react_readOf .crc s, react_readOf .adler s, react_readOf .dec s, react_readOf .zrem s, react_readOf .zstat s,
    react_readOf .status s, react_readOf_out_nil, fun _ _ => react_readOf_out_cons⟩

/-- Settles O46: the offset is that of a register other than OUT, whose read changes only the value returned, which no
register shows. -/
theorem readsAreIdempotent : Obligations.ReadsAreIdempotent := by
  unfold Obligations.ReadsAreIdempotent
  intro s off halign hoff
  obtain ⟨r, -, rfl, -⟩ := regAt_of_wellFormed (accessWellFormed_iff.2 ⟨rfl, halign, Nat.le_of_lt hoff⟩)
  have hr : r ≠ .out := by
    rintro rfl
    exact absurd hoff (by decide)
  exact ⟨(readReg r s).1, react_readOf_ne_out hr s, react_readOf_twice hr s _⟩

end Sys2Proof.Machine
end

section
/-! SUPPORT. The opcode table as a correspondence (R92): each mnemonic has one OPC, and an OPC with a byte selects one
command. -/

namespace Sys2Proof.Machine

/-- The command an OPC selects is that of the mnemonic with this OPC. -/
theorem instrOf_opc (m : Mnemonic) (b : Byte) : instrOf m.opc b = some (commandOf m b) := by
  cases m <;> rfl

@[simp] theorem mnemonic_commandOf (m : Mnemonic) (b : Byte) : (commandOf m b).mnemonic = m := by
  cases m <;> rfl

/-- A command is what its mnemonic and its operand byte stand for. -/
@[simp] theorem commandOf_mnemonic_imm8 (i : Instr) : commandOf i.mnemonic i.imm8 = i := by
  cases i <;> rfl

/-- The operand byte reaches the command exactly when the mnemonic takes one (R91). -/
theorem imm8_commandOf (m : Mnemonic) (b : Byte) : (commandOf m b).imm8 = if m.takesImm8 = true then b else 0#8 := by
  cases m <;> rfl

theorem imm8_eq_zero {i : Instr} (h : i.mnemonic.takesImm8 = false) : i.imm8 = 0#8 := by
  rw [← commandOf_mnemonic_imm8 i, imm8_commandOf, h, if_neg Bool.false_ne_true]

/-- Each of the 17 rows of `instrOf` names the OPC of the mnemonic of the command it selects. -/
theorem instrOf_eq_some_iff {opc b : Byte} {i : Instr} :
    instrOf opc b = some i ↔ i.mnemonic.opc = opc ∧ commandOf i.mnemonic b = i := by
  constructor
  · intro h
    unfold instrOf at h
    split at h
    case h_18 => exact absurd h (Option.some_ne_none i).symm
    all_goals
      next hopc =>
        cases h
        exact ⟨BitVec.eq_of_toNat_eq hopc.symm, rfl⟩
  · rintro ⟨rfl, hi⟩
    rw [instrOf_opc, hi]

/-- No two mnemonics share an OPC. -/
theorem opc_injective : Function.Injective Mnemonic.opc := by
  intro m n h
  have hcmd : some (commandOf m 0#8) = some (commandOf n 0#8) := by
    rw [← instrOf_opc, ← instrOf_opc, h]
  simpa using congrArg (Option.map Instr.mnemonic) hcmd

theorem opcTakesImm8_opc (m : Mnemonic) : opcTakesImm8 m.opc = m.takesImm8 := by
  cases m <;> rfl

theorem opcTakesImm8_eq_false_iff {opc : Byte} : opcTakesImm8 opc = false ↔ opc ∉ imm8Opcs := by
  simp [opcTakesImm8, imm8Opcs, and_assoc]

/-! The rows of the opcode map (R92). -/

/-- The row of a mnemonic, from its OPC and from whether it takes an operand: the word is that of the operand 0, and the
mask leaves out the operand (R92). -/
def rowOf (m : Mnemonic) : OpcodeRow :=
  ⟨m, commandWord m.opc 0#8, if m.takesImm8 = true then 0xFFFFFF00#32 else 0xFFFFFFFF#32⟩

theorem rowOf_mem_opcodeMap (m : Mnemonic) : rowOf m ∈ opcodeMap := by
  cases m <;> decide

theorem eq_rowOf_of_mem_opcodeMap : ∀ r ∈ opcodeMap, r = rowOf r.mnemonic := by
  decide

/-- R93 lists the OPC values of the opcode map's rows. -/
theorem mem_definedOpcs_iff {opc : Byte} : opc ∈ definedOpcs ↔ ∃ m : Mnemonic, m.opc = opc := by
  have hlist : definedOpcs = opcodeMap.map fun r => r.mnemonic.opc := rfl
  rw [hlist, List.mem_map]
  exact ⟨fun ⟨r, _, h⟩ => ⟨r.mnemonic, h⟩, fun ⟨m, h⟩ => ⟨rowOf m, rowOf_mem_opcodeMap m, h⟩⟩

theorem instrOf_ne_none_iff {opc b : Byte} : instrOf opc b ≠ none ↔ opc ∈ definedOpcs := by
  rw [Option.ne_none_iff_exists', mem_definedOpcs_iff]
  constructor
  · rintro ⟨i, h⟩
    obtain ⟨hopc, -⟩ := instrOf_eq_some_iff.1 h
    exact ⟨i.mnemonic, hopc⟩
  · rintro ⟨m, rfl⟩
    exact ⟨commandOf m b, instrOf_opc m b⟩

end Sys2Proof.Machine
end

section
/-! SUPPORT. The decoder and the encoder: a word decodes to the command whose fields it has (R90 to R93). Settles O35,
O36, O33 and O37. -/

namespace Sys2Proof.Machine

@[simp] theorem opcOf_encode (i : Instr) : opcOf (encode i) = i.mnemonic.opc := opcOf_commandWord _ _
@[simp] theorem rsvdOf_encode (i : Instr) : rsvdOf (encode i) = 0#16 := rsvdOf_commandWord _ _
@[simp] theorem imm8Of_encode (i : Instr) : imm8Of (encode i) = i.imm8 := imm8Of_commandWord _ _

/-- A word decodes to a command exactly when OPC and IMM8 are the command's and RSVD is clear: the check on IMM8 that
`decode` makes (R93) is what makes IMM8 the operand of a command that takes none. -/
theorem decode_eq_ok_iff_fields {w : Word} {i : Instr} :
    decode w = .ok i ↔ opcOf w = i.mnemonic.opc ∧ rsvdOf w = 0#16 ∧ imm8Of w = i.imm8 := by
  rw [decode_ok_iff, instrOf_eq_some_iff]
  constructor
  · rintro ⟨⟨hopc, hi⟩, hrsvd, himm⟩
    rw [← hopc, opcTakesImm8_opc] at himm
    refine ⟨hopc.symm, hrsvd, ?_⟩
    cases ht : i.mnemonic.takesImm8 with
    | false => rw [himm ht, imm8_eq_zero ht]
    | true => rw [← hi, imm8_commandOf, if_pos ht]
  · rintro ⟨hopc, hrsvd, himm⟩
    rw [hopc, himm, opcTakesImm8_opc]
    exact ⟨⟨rfl, commandOf_mnemonic_imm8 i⟩, hrsvd, imm8_eq_zero⟩

theorem decode_encode (i : Instr) : decode (encode i) = .ok i :=
  decode_eq_ok_iff_fields.2 ⟨opcOf_encode i, rsvdOf_encode i, imm8Of_encode i⟩

/-- Settles O35: the encoding has the command's fields. -/
theorem decodeInvertsEncode : Obligations.DecodeInvertsEncode := by
  unfold Obligations.DecodeInvertsEncode
  exact decode_encode

/-- Settles O36: the word and the encoding have the same three fields. -/
theorem encodeInvertsDecode : Obligations.EncodeInvertsDecode := by
  unfold Obligations.EncodeInvertsDecode
  intro w i h
  obtain ⟨hopc, hrsvd, himm⟩ := decode_eq_ok_iff_fields.1 h
  apply word_eq_of_fields
  · rw [opcOf_encode, hopc]
  · rw [rsvdOf_encode, hrsvd]
  · rw [imm8Of_encode, himm]

/-- Which words decode to a command of a given mnemonic. -/
theorem exists_decode_eq_ok_iff {w : Word} {m : Mnemonic} :
    (∃ i, decode w = .ok i ∧ i.mnemonic = m) ↔
      opcOf w = m.opc ∧ rsvdOf w = 0#16 ∧ (m.takesImm8 = false → imm8Of w = 0#8) := by
  constructor
  · rintro ⟨i, h, rfl⟩
    obtain ⟨hopc, hrsvd, himm⟩ := decode_eq_ok_iff_fields.1 h
    exact ⟨hopc, hrsvd, fun ht => himm.trans (imm8_eq_zero ht)⟩
  · rintro ⟨hopc, hrsvd, himm⟩
    rw [← opcTakesImm8_opc, ← hopc] at himm
    refine ⟨commandOf m (imm8Of w), decode_ok_iff.2 ⟨?_, hrsvd, himm⟩, mnemonic_commandOf m _⟩
    rw [hopc, instrOf_opc]

/-- Settles O33: the three outcomes from the equations of `decode`, with R93's two lists of OPC values. -/
theorem decodeIsTotalInTheOrderOfR93 : Obligations.DecodeIsTotalInTheOrderOfR93 := by
  unfold Obligations.DecodeIsTotalInTheOrderOfR93
  intro w
  refine ⟨?_, ?_, ?_, fun i h => ?_⟩
  · rw [decode_illegalOp_iff, ← instrOf_ne_none_iff (b := imm8Of w), not_not]
  · rw [decode_rsvdNz_iff, instrOf_ne_none_iff, opcTakesImm8_eq_false_iff]
  · simp only [decode_ok_iff, exists_and_right, ← Option.ne_none_iff_exists', instrOf_ne_none_iff,
      opcTakesImm8_eq_false_iff, ← or_iff_not_imp_left]
  · obtain ⟨hopc, -, himm⟩ := decode_eq_ok_iff_fields.1 h
    exact ⟨hopc.symm, himm.symm⟩

/-- Settles O37: the decoder runs on each of the nine words. -/
theorem writtenWordsDecode : Obligations.WrittenWordsDecode := by
  unfold Obligations.WrittenWordsDecode
  decide

end Sys2Proof.Machine
end

section
/-! SUPPORT. When a word agrees with a row of the opcode map (R92). Settles O34. -/

namespace Sys2Proof.Machine

/-- A word agrees with a command word on a mask when each of its fields does. -/
theorem and_eq_commandWord_iff {w mask : Word} {opc b : Byte} :
    w &&& mask = commandWord opc b ↔
      opcOf w &&& opcOf mask = opc ∧ rsvdOf w &&& rsvdOf mask = 0#16 ∧ imm8Of w &&& imm8Of mask = b := by
  simp only [opcOf, rsvdOf, imm8Of, ← BitVec.extractLsb'_and]
  constructor
  · intro h
    rw [h]
    exact ⟨opcOf_commandWord opc b, rsvdOf_commandWord opc b, imm8Of_commandWord opc b⟩
  · rintro ⟨hopc, hrsvd, himm⟩
    apply word_eq_of_fields
    · rw [opcOf_commandWord, ← hopc, opcOf]
    · rw [rsvdOf_commandWord, ← hrsvd, rsvdOf]
    · rw [imm8Of_commandWord, ← himm, imm8Of]

/-- A word agrees with a mnemonic's row when OPC is the mnemonic's, RSVD is clear, and so is IMM8 where the mask keeps
it. -/
theorem matchesWord_rowOf {w : Word} {m : Mnemonic} :
    (rowOf m).matchesWord w = true ↔
      opcOf w = m.opc ∧ rsvdOf w = 0#16 ∧ (m.takesImm8 = false → imm8Of w = 0#8) := by
  rw [OpcodeRow.matchesWord, beq_iff_eq, rowOf, and_eq_commandWord_iff]
  cases m.takesImm8 with
  | false =>
    have hmask : opcOf 0xFFFFFFFF#32 = BitVec.allOnes 8 ∧ rsvdOf 0xFFFFFFFF#32 = BitVec.allOnes 16 ∧
        imm8Of 0xFFFFFFFF#32 = BitVec.allOnes 8 := by decide
    obtain ⟨hopc, hrsvd, himm⟩ := hmask
    simp only [Bool.false_eq_true, if_false, hopc, hrsvd, himm, BitVec.and_allOnes, forall_const]
  | true =>
    have hmask : opcOf 0xFFFFFF00#32 = BitVec.allOnes 8 ∧ rsvdOf 0xFFFFFF00#32 = BitVec.allOnes 16 ∧
        imm8Of 0xFFFFFF00#32 = 0#8 := by decide
    obtain ⟨hopc, hrsvd, himm⟩ := hmask
    simp only [if_true, hopc, hrsvd, himm, BitVec.and_allOnes, BitVec.and_zero, Bool.true_eq_false, false_implies]

/-- The OPC values that select a command are the 17 listed. -/
theorem filter_range_defined_perm :
    ((List.range 256).filter fun n => !(instrOf (BitVec.ofNat 8 n) 0#8).isNone).Perm
      (definedOpcs.map BitVec.toNat) := by
  refine (List.perm_ext_iff_of_nodup (List.nodup_range.filter _) (by decide)).2 fun n => ?_
  have hdef : (!(instrOf (BitVec.ofNat 8 n) 0#8).isNone) = true ↔ BitVec.ofNat 8 n ∈ definedOpcs := by
    rw [← instrOf_ne_none_iff (b := 0#8), Bool.not_eq_true', Option.isNone_eq_false_iff, Option.isSome_iff_ne_none]
  rw [List.mem_filter, List.mem_range, hdef, List.mem_map]
  constructor
  · rintro ⟨hn, ho⟩
    exact ⟨_, ho, BitVec.toNat_ofNat n 8 ▸ Nat.mod_eq_of_lt hn⟩
  · rintro ⟨opc, ho, rfl⟩
    exact ⟨opc.isLt, by rwa [BitVec.ofNat_toNat, BitVec.setWidth_eq]⟩

/-- The other 239 of the 256 OPC values are reserved (R95). -/
theorem length_reserved_opcs :
    ((List.range 256).filter fun n => (instrOf (BitVec.ofNat 8 n) 0#8).isNone).length = 239 := by
  have htotal := List.length_eq_length_filter_add (l := List.range 256)
    fun n => (instrOf (BitVec.ofNat 8 n) 0#8).isNone
  have hdefined : (definedOpcs.map BitVec.toNat).length = 17 := rfl
  rw [filter_range_defined_perm.length_eq, hdefined, List.length_range] at htotal
  omega

/-- Settles O34: a row and `decode` ask the same of a word's fields, and the OPC determines the row. -/
theorem decodeFollowsTheOpcodeMap : Obligations.DecodeFollowsTheOpcodeMap := by
  unfold Obligations.DecodeFollowsTheOpcodeMap
  refine ⟨fun w m => ?_, fun w r hr q hq hrw hqw => ?_, length_reserved_opcs⟩
  · rw [exists_decode_eq_ok_iff, ← matchesWord_rowOf]
    constructor
    · exact fun h => ⟨rowOf m, rowOf_mem_opcodeMap m, rfl, h⟩
    · rintro ⟨r, hr, rfl, h⟩
      rwa [eq_rowOf_of_mem_opcodeMap r hr] at h
  · rw [eq_rowOf_of_mem_opcodeMap r hr, matchesWord_rowOf] at hrw
    rw [eq_rowOf_of_mem_opcodeMap q hq, matchesWord_rowOf] at hqw
    obtain ⟨hropc, -, -⟩ := hrw
    obtain ⟨hqopc, -, -⟩ := hqw
    have hm : r.mnemonic = q.mnemonic := opc_injective (hropc.symm.trans hqopc)
    rw [eq_rowOf_of_mem_opcodeMap r hr, eq_rowOf_of_mem_opcodeMap q hq, hm]

end Sys2Proof.Machine
end

section
/-! SUPPORT. Assembling a written command (R97). Settles O38. -/

namespace Sys2Proof.Machine

theorem assemble_of_wellFormed {l : SourceLine} (h : l.wellFormed = true) :
    assemble l = some (encode (commandOf l.mnemonic (operandByte l))) := if_pos h

theorem assemble_of_not_wellFormed {l : SourceLine} (h : l.wellFormed = false) : assemble l = none := by
  rw [assemble, h, if_neg Bool.false_ne_true]

/-- A well-formed line has an operand in range exactly when its mnemonic takes one (R97). -/
theorem operand_of_wellFormed {l : SourceLine} (h : l.wellFormed = true) :
    (l.mnemonic.takesImm8 = false ∧ l.operand = none) ∨
      ∃ o, l.mnemonic.takesImm8 = true ∧ l.operand = some o ∧ o.inRange = true := by
  unfold SourceLine.wellFormed at h
  cases ho : l.operand with
  | none => exact .inl (by simpa [ho] using h)
  | some o => exact .inr (by simpa [ho] using h)

/-- An operand in range is a byte. -/
theorem value_lt_of_inRange {o : Operand} (h : o.inRange = true) : o.value < 2 ^ 8 := by
  cases o with
  | number n =>
    have hn : n ≤ 255 := of_decide_eq_true h
    exact Nat.lt_succ_of_le hn
  | character c =>
    have hc : c.toNat ≤ 127 := of_decide_eq_true h
    exact Nat.lt_of_le_of_lt hc (by decide)

theorem operandByte_of_operand {l : SourceLine} {o : Operand} (h : l.operand = some o) :
    operandByte l = BitVec.ofNat 8 o.value := by
  rw [operandByte, h]

/-- The command of a well-formed line carries the line's operand byte, 0 where there is none. -/
theorem imm8_commandOf_operandByte {l : SourceLine} (h : l.wellFormed = true) :
    (commandOf l.mnemonic (operandByte l)).imm8 = operandByte l := by
  rw [imm8_commandOf]
  rcases operand_of_wellFormed h with ⟨ht, ho⟩ | ⟨o, ht, -, -⟩
  · rw [ht, if_neg Bool.false_ne_true, operandByte, ho]
  · rw [if_pos ht]

theorem operandByte_toNat {l : SourceLine} (h : l.wellFormed = true) {o : Operand} (ho : l.operand = some o) :
    (operandByte l).toNat = o.value := by
  rcases operand_of_wellFormed h with ⟨-, hnone⟩ | ⟨p, -, hp, hrange⟩
  · exact absurd (hnone.symm.trans ho) (Option.some_ne_none o).symm
  · obtain rfl : p = o := Option.some.inj (hp.symm.trans ho)
    rw [operandByte_of_operand ho, BitVec.toNat_ofNat, Nat.mod_eq_of_lt (value_lt_of_inRange hrange)]

/-- Settles O38: the word is the encoding of the line's command, which decodes to it. -/
theorem assemblyProducesTheCommandWord : Obligations.AssemblyProducesTheCommandWord := by
  unfold Obligations.AssemblyProducesTheCommandWord
  refine ⟨fun l h => ⟨?_, encode (commandOf l.mnemonic (operandByte l)), commandOf l.mnemonic (operandByte l),
    assemble_of_wellFormed h, decode_encode _, mnemonic_commandOf _ _, fun o ho => ?_⟩,
    fun l h => assemble_of_not_wellFormed h⟩
  · rw [assemble_of_wellFormed h, encode, commandWord, mnemonic_commandOf, imm8_commandOf_operandByte h]
  · rw [imm8_commandOf_operandByte h, operandByte_toNat h ho]

end Sys2Proof.Machine
end

section
/-! SUPPORT. The words of a command (R92, R95): a word with a mnemonic's OPC is the encoding of one of its commands, or
it is rejected and executing it only records RSVD_NZ. -/

namespace Sys2Proof.Machine

/-- R95: a defined OPC with a reserved bit set, for one mnemonic. -/
theorem decode_rsvdNz_of_opc {v : Word} {m : Mnemonic} (hopc : opcOf v = m.opc)
    (hbad : rsvdOf v ≠ 0#16 ∨ (m.takesImm8 = false ∧ imm8Of v ≠ 0#8)) : decode v = .error .rsvdNz := by
  have hdef : instrOf (opcOf v) (imm8Of v) ≠ none := by
    rw [hopc, instrOf_opc]
    exact Option.some_ne_none _
  rw [← opcTakesImm8_opc, ← hopc] at hbad
  exact decode_rsvdNz_iff.2 ⟨hdef, hbad⟩

/-- The encoding is the one word of a command that takes no operand. -/
theorem hasOneWord_encode {i : Instr} (ht : i.mnemonic.takesImm8 = false) : HasOneWord i (encode i) := by
  refine ⟨decode_encode i, fun v hopc hne => ?_⟩
  rw [opcOf_encode] at hopc
  have hbad : rsvdOf v ≠ 0#16 ∨ (i.mnemonic.takesImm8 = false ∧ imm8Of v ≠ 0#8) := by
    by_contra hgood
    simp only [ht, true_and, not_or, not_not] at hgood
    obtain ⟨hrsvd, himm⟩ := hgood
    refine hne (word_eq_of_fields ?_ ?_ ?_)
    · rw [opcOf_encode, hopc]
    · rw [rsvdOf_encode, hrsvd]
    · rw [imm8Of_encode, himm, imm8_eq_zero ht]
  have hd := decode_rsvdNz_of_opc hopc hbad
  exact ⟨hd, execute_of_decode_error hd⟩

theorem commandWord_zero_or (opc b : Byte) : commandWord opc 0#8 ||| b.setWidth 32 = commandWord opc b := by
  simp [commandWord]

/-- The encodings are the words of an IMM8 mnemonic's commands, one for each byte. -/
theorem hasByteWords_commandOf {m : Mnemonic} (ht : m.takesImm8 = true) :
    HasByteWords (commandOf m) (commandWord m.opc 0#8) := by
  refine ⟨fun b => ?_, fun v hopc hrsvd => ?_⟩
  · have himm : (commandOf m b).imm8 = b := by rw [imm8_commandOf, if_pos ht]
    have henc : encode (commandOf m b) = commandWord m.opc b := by rw [encode, mnemonic_commandOf, himm]
    rw [commandWord_zero_or, ← henc, decode_encode]
  · rw [opcOf_commandWord] at hopc
    have hd := decode_rsvdNz_of_opc hopc (.inl hrsvd)
    exact ⟨hd, execute_of_decode_error hd⟩

end Sys2Proof.Machine
end

section
/-! SUPPORT. Commands that push nothing, and sequences of commands that the host issues (R94, R97, R184). -/

namespace Sys2Proof.Machine

/-- A command that passes its state check and pushes nothing has its effect (R94). -/
theorem exec_of_pushes_nothing {i : Instr} {s : State} (hcheck : stateCheck i s = none) (hpush : pushCount i s = 0)
    (h : s.QueueFits) : exec i s = .next (effectOf i s) := by
  apply exec_of_no_error
  rw [commandError_none_iff, hpush]
  exact ⟨hcheck, h⟩

/-- A command issued by the host is executed (R97, R99). -/
theorem react_issueOf (i : Instr) (s : State) : react (issueOf s.config i) s = exec i s := by
  have h := react_cmdWrite s (encode i)
  rwa [execute_of_decode_ok (decode_encode i)] at h

theorem reactAll_cons {e : HostEvent} {s t : State} (h : react e s = .next t) (es : List HostEvent) :
    reactAll (e :: es) s = reactAll es t := by
  rw [reactAll, h]

theorem reactAll_append {es : List HostEvent} {s t : State} (h : reactAll es s = .next t) (fs : List HostEvent) :
    reactAll (es ++ fs) s = reactAll fs t := by
  induction es generalizing s with
  | nil =>
    cases h
    rfl
  | cons e es ih =>
    rw [reactAll] at h
    split at h
    · next u hu =>
      rw [List.cons_append, reactAll_cons hu]
      exact ih h
    · cases h
    · cases h

end Sys2Proof.Machine
end

section
/-! SUPPORT. The CRC-32 lookup engine's arithmetic (R110, R112): R110's loop is linear over XOR, and where only zeros
are shifted out it is a shift; so the table lookup is eight steps of the division. Settles O11. -/

namespace Sys2Proof.Machine

/-! R110's loop. -/

theorem crcSteps_eq_iterate (n : Nat) (c : Word) : crcSteps n c = crcStep^[n] c := by
  induction n generalizing c with
  | zero => rfl
  | succ n ih => exact ih (crcStep c)

theorem crcStep_of_bit_clear {c : Word} (h : c.getLsbD 0 = false) : crcStep c = c >>> 1 := by
  rw [crcStep, h, if_neg Bool.false_ne_true]

theorem crcStep_of_bit_set {c : Word} (h : c.getLsbD 0 = true) : crcStep c = poly ^^^ (c >>> 1) := by
  rw [crcStep, if_pos h]

theorem crcStep_xor (c d : Word) : crcStep (c ^^^ d) = crcStep c ^^^ crcStep d := by
  have hbit : (c ^^^ d).getLsbD 0 = (c.getLsbD 0 ^^ d.getLsbD 0) := BitVec.getLsbD_xor
  have hshift : (c ^^^ d) >>> 1 = c >>> 1 ^^^ d >>> 1 := BitVec.ushiftRight_xor_distrib c d 1
  cases hc : c.getLsbD 0 <;> cases hd : d.getLsbD 0 <;> rw [hc, hd] at hbit
  · rw [crcStep_of_bit_clear hbit, crcStep_of_bit_clear hc, crcStep_of_bit_clear hd, hshift]
  · rw [crcStep_of_bit_set hbit, crcStep_of_bit_clear hc, crcStep_of_bit_set hd, hshift, ← BitVec.xor_assoc,
      BitVec.xor_comm poly, BitVec.xor_assoc]
  · rw [crcStep_of_bit_set hbit, crcStep_of_bit_set hc, crcStep_of_bit_clear hd, hshift, BitVec.xor_assoc]
  · rw [crcStep_of_bit_clear hbit, crcStep_of_bit_set hc, crcStep_of_bit_set hd, hshift, BitVec.xor_comm poly,
      BitVec.xor_assoc, ← BitVec.xor_assoc poly, BitVec.xor_self, BitVec.zero_xor]

theorem crcSteps_xor (n : Nat) (c d : Word) : crcSteps n (c ^^^ d) = crcSteps n c ^^^ crcSteps n d := by
  induction n generalizing c d with
  | zero => rfl
  | succ n ih => rw [crcSteps, crcStep_xor, ih, crcSteps, crcSteps]

/-- Steps that shift out zeros only shift. -/
theorem crcSteps_of_low_bits_clear {n : Nat} {c : Word} (h : ∀ k < n, c.getLsbD k = false) :
    crcSteps n c = c >>> n := by
  induction n generalizing c with
  | zero => simp [crcSteps]
  | succ n ih =>
    have hrest : ∀ k < n, (c >>> 1).getLsbD k = false := fun k hk => by
      rw [BitVec.getLsbD_ushiftRight]
      exact h (1 + k) (by omega)
    rw [crcSteps, crcStep_of_bit_clear (h 0 n.succ_pos), ih hrest, ← BitVec.shiftRight_add, Nat.add_comm]

/-! One byte (R112). -/

theorem setWidth_byte_ushiftRight_eight (b : Byte) : (b.setWidth 32 : Word) >>> 8 = 0#32 := by
  ext k hk
  simp

theorem extractLsb'_setWidth_byte (b : Byte) : (b.setWidth 32 : Word).extractLsb' 0 8 = b := by
  apply BitVec.eq_of_toNat_eq
  simpa [BitVec.extractLsb'_toNat] using b.isLt

/-- Eight steps of the division: the low byte is looked up, and the rest only shifts. -/
theorem crcSteps_eight (x : Word) : crcSteps 8 x = (x >>> 8) ^^^ crcTable (x.extractLsb' 0 8) := by
  have hsplit : x = x ^^^ (x.extractLsb' 0 8).setWidth 32 ^^^ (x.extractLsb' 0 8).setWidth 32 := by
    rw [BitVec.xor_assoc, BitVec.xor_self, BitVec.xor_zero]
  have hlow : ∀ k < 8, (x ^^^ (x.extractLsb' 0 8).setWidth 32).getLsbD k = false := fun k hk => by
    have hk32 : k < 32 := by omega
    simp [hk, hk32]
  calc crcSteps 8 x
      = crcSteps 8 (x ^^^ (x.extractLsb' 0 8).setWidth 32) ^^^ crcTable (x.extractLsb' 0 8) := by
        conv_lhs => rw [hsplit, crcSteps_xor]
        rfl
    _ = (x >>> 8) ^^^ crcTable (x.extractLsb' 0 8) := by
        rw [crcSteps_of_low_bits_clear hlow, BitVec.ushiftRight_xor_distrib, setWidth_byte_ushiftRight_eight,
          BitVec.xor_zero]

theorem crcUpdate_eq_crcSteps (c : Word) (b : Byte) : crcUpdate c b = crcSteps 8 (c ^^^ b.setWidth 32) :=
  (crcSteps_eight _).symm

/-- R112's second form: the byte reaches only the index. -/
theorem crcUpdate_eq_lookup (c : Word) (b : Byte) :
    crcUpdate c b = (c >>> 8) ^^^ crcTable (c.extractLsb' 0 8 ^^^ b) := by
  rw [crcUpdate, imm32, BitVec.ushiftRight_xor_distrib, setWidth_byte_ushiftRight_eight, BitVec.xor_zero,
    BitVec.extractLsb'_xor, extractLsb'_setWidth_byte]

/-- The document masks the accumulator where R112 takes its low byte. -/
theorem setWidth_and_low_byte (x : Word) : (x &&& 0xFF#32).setWidth 8 = x.extractLsb' 0 8 := by
  apply BitVec.eq_of_toNat_eq
  simp [Nat.and_two_pow_sub_one_eq_mod _ 8]

theorem docCrcByte_eq_crcUpdate : docCrcByte = crcUpdate := by
  funext c b
  rw [docCrcByte, setWidth_and_low_byte, crcUpdate, imm32]

theorem docCrc32_eq_foldl (d : List Byte) :
    docCrc32 d = d.foldl crcUpdate 0xFFFFFFFF#32 ^^^ 0xFFFFFFFF#32 := by
  rw [docCrc32, docCrcByte_eq_crcUpdate]

theorem bitSerialCrc32_eq_foldl (d : List Byte) :
    bitSerialCrc32 d = d.foldl crcUpdate 0xFFFFFFFF#32 ^^^ 0xFFFFFFFF#32 := by
  have hupdate : crcUpdate = fun c b => crcSteps 8 (c ^^^ b.setWidth 32) := by
    funext c b
    exact crcUpdate_eq_crcSteps c b
  rw [bitSerialCrc32, hupdate]

/-- Settles O11: both functions fold the same update over the bytes. -/
theorem tableCrcIsBitSerialCrc : Obligations.TableCrcIsBitSerialCrc := by
  unfold Obligations.TableCrcIsBitSerialCrc
  refine ⟨crcUpdate_eq_crcSteps, fun d => ?_⟩
  rw [docCrc32_eq_foldl, bitSerialCrc32_eq_foldl]

end Sys2Proof.Machine
end

section
/-! SUPPORT. The CRC-32 commands (41_crc.md). Settles O5 to O10. -/

namespace Sys2Proof.Machine

/-- The printed entries, each computed by R110's loop; a closed fact about 256 words. -/
theorem crcListing_eq_map : crcListing = (List.range 256).map fun n => crcTable (BitVec.ofNat 8 n) := by
  decide +kernel

/-- Settles O5: the listing is the table's values in order. -/
theorem crcTableHoldsThePrintedEntries : Obligations.CrcTableHoldsThePrintedEntries := by
  unfold Obligations.CrcTableHoldsThePrintedEntries
  refine ⟨?_, fun n => ?_, fun n => crcSteps_eq_iterate 8 _⟩
  · rw [crcListing_eq_map, List.length_map, List.length_range]
  · rw [crcListing_eq_map, List.getElem?_map, List.getElem?_range n.isLt, Option.map_some, BitVec.ofNat_toNat,
      BitVec.setWidth_eq]

theorem exec_crcInit {s : State} (h : s.QueueFits) : exec .crcInit s = .next { s with crc := 0xFFFFFFFF#32 } :=
  exec_of_pushes_nothing rfl rfl h

theorem exec_crcByte (b : Byte) {s : State} (h : s.QueueFits) :
    exec (.crcByte b) s = .next { s with crc := crcUpdate s.crc b } :=
  exec_of_pushes_nothing rfl rfl h

theorem exec_crcFinal {s : State} (h : s.QueueFits) :
    exec .crcFinal s = .next { s with result := s.crc ^^^ 0xFFFFFFFF#32 } :=
  exec_of_pushes_nothing rfl rfl h

theorem exec_crcLookup (i : Byte) {s : State} (h : s.QueueFits) :
    exec (.crcLookup i) s = .next { s with result := crcTable i } :=
  exec_of_pushes_nothing rfl rfl h

/-- Settles O6: CRC.INIT takes no operand, has no state check and pushes nothing. -/
theorem crcInitSetsTheAccumulator : Obligations.CrcInitSetsTheAccumulator := by
  unfold Obligations.CrcInitSetsTheAccumulator
  exact ⟨hasOneWord_encode (i := .crcInit) rfl, fun _ => exec_crcInit⟩

/-- Settles O7: the model's update is R112's first form, and equals its second. -/
theorem crcByteFeedsOneByte : Obligations.CrcByteFeedsOneByte := by
  unfold Obligations.CrcByteFeedsOneByte
  refine ⟨hasByteWords_commandOf (m := .crcByte) rfl, fun s b h => ⟨exec_crcByte b h, ?_⟩⟩
  rw [exec_crcByte b h, crcUpdate_eq_lookup]

/-- Settles O8: CRC.FINAL takes no operand, has no state check and pushes nothing. -/
theorem crcFinalWritesResult : Obligations.CrcFinalWritesResult := by
  unfold Obligations.CrcFinalWritesResult
  exact ⟨hasOneWord_encode (i := .crcFinal) rfl, fun _ => exec_crcFinal⟩

/-- Settles O9: CRC.LOOKUP takes its index from IMM8, has no state check and pushes nothing. -/
theorem crcLookupReadsTheTable : Obligations.CrcLookupReadsTheTable := by
  unfold Obligations.CrcLookupReadsTheTable
  exact ⟨hasByteWords_commandOf (m := .crcLookup) rfl, fun _ i => exec_crcLookup i⟩

/-- CRC.BYTE of each byte of a sequence folds the update over it. -/
theorem reactAll_crcStr (d : List Byte) {s : State} (h : s.QueueFits) :
    reactAll ((Pseudo.crcStr d).expand s.config) s = .next { s with crc := d.foldl crcUpdate s.crc } := by
  induction d generalizing s with
  | nil => rfl
  | cons b d ih =>
    have hb : react (issueOf s.config (.crcByte b)) s = .next { s with crc := crcUpdate s.crc b } := by
      rw [react_issueOf, exec_crcByte b h]
    rw [Pseudo.expand, List.map_cons, reactAll_cons hb]
    exact ih (s := { s with crc := crcUpdate s.crc b }) h

/-- CRC.INIT, CRC.BYTE of each byte, CRC.FINAL. -/
theorem reactAll_crcOf (d : List Byte) {s : State} (h : s.QueueFits) :
    reactAll ((Pseudo.crcOf d).expand s.config) s =
      .next { s with
        crc := d.foldl crcUpdate 0xFFFFFFFF#32
        result := d.foldl crcUpdate 0xFFFFFFFF#32 ^^^ 0xFFFFFFFF#32 } := by
  have hinit : react (issueOf s.config .crcInit) s = .next { s with crc := 0xFFFFFFFF#32 } := by
    rw [react_issueOf, exec_crcInit h]
  have hbytes := reactAll_crcStr d (s := { s with crc := 0xFFFFFFFF#32 }) h
  have hfinal := (react_issueOf .crcFinal { s with crc := d.foldl crcUpdate 0xFFFFFFFF#32 }).trans (exec_crcFinal h)
  rw [Pseudo.expand, reactAll_cons hinit]
  exact (reactAll_append hbytes _).trans (reactAll_cons hfinal [])

/-- Settles O10: RESULT gets the document's fold, and CRC keeps it un-inverted. -/
theorem crcCommandsComputeCrc32 : Obligations.CrcCommandsComputeCrc32 := by
  unfold Obligations.CrcCommandsComputeCrc32
  refine ⟨fun d s h => ?_, rfl, by decide⟩
  rw [reactAll_crcOf d h, docCrc32_eq_foldl, BitVec.xor_assoc, BitVec.xor_self, BitVec.xor_zero]

end Sys2Proof.Machine
end

section
/-! SUPPORT. Commands that their state check turns away, and one command issued for each byte of a sequence (R94, R98,
R223). -/

namespace Sys2Proof.Machine

/-- A command that its state check turns away only records the check's error, whatever the room in OUTQ (R94, R223). -/
theorem exec_of_stateCheck {i : Instr} {s : State} {c : ErrorCode} (h : stateCheck i s = some c) :
    exec i s = .next (s.recordError c) := by
  apply exec_of_error
  rw [commandError, h]

/-- Commands issued one for each byte fold their effects over them, while `P` lets each pass and each keeps `P`. -/
theorem reactAll_issue_each {f : Byte → Instr} {P : State → Prop}
    (hpass : ∀ (b : Byte) (s : State), P s → commandError (f b) s = none ∧ P (effectOf (f b) s))
    (d : List Byte) {s : State} (h : P s) :
    reactAll (d.map fun b => issueOf s.config (f b)) s = .next (d.foldl (fun t b => effectOf (f b) t) s) := by
  induction d generalizing s with
  | nil => rfl
  | cons b d ih =>
    obtain ⟨hnone, hkept⟩ := hpass b s h
    have hb := (react_issueOf (f b) s).trans (exec_of_no_error hnone)
    obtain ⟨hconfig, -, -⟩ := effectOf_keeps_host (f b) s
    have hrest := ih hkept
    rw [hconfig] at hrest
    rw [List.map_cons, reactAll_cons hb, List.foldl_cons, hrest]

end Sys2Proof.Machine
end

section
/-! SUPPORT. The Adler update's arithmetic (R131 to R133): its sums are the document's on naturals, one subtraction
reduces each, and the modulus is the largest prime below 2^16. Settles O15. -/

namespace Sys2Proof.Machine

/-- The Adler sums as the naturals that the document computes with. -/
def State.adlerSums (s : State) : Nat × Nat := (s.adlA.toNat, s.adlB.toNat)

/-- One update is the document's step on the sums (R131). -/
theorem adlerSums_adlerUpdate (s : State) (b : Byte) :
    (s.adlerUpdate b).adlerSums = docAdlerByte s.adlerSums b := by
  simp [State.adlerSums, docAdlerByte, adlerA_toNat, adlerB_toNat]

theorem adlerSums_foldl_adlerUpdate (d : List Byte) (s : State) :
    (d.foldl State.adlerUpdate s).adlerSums = d.foldl docAdlerByte s.adlerSums :=
  (List.foldl_hom State.adlerSums fun s b => (adlerSums_adlerUpdate s b).symm).symm

/-- The starting sums and one update for each byte give the document's sums (R130, R131). -/
theorem adlerSums_of_bytes (d : List Byte) (s : State) :
    (d.foldl State.adlerUpdate s.adlerInit).adlerSums = docAdlerSums d :=
  adlerSums_foldl_adlerUpdate d s.adlerInit

/-- ADLER holds the document's `adler32` when the sums are the document's (R37, R132). -/
theorem adler_eq_docAdler32 {s : State} {d : List Byte} (h : s.adlerSums = docAdlerSums d) :
    s.adler = docAdler32 d := by
  apply BitVec.eq_of_toNat_eq
  have := s.adlA.isLt
  have := s.adlB.isLt
  rw [adler_toNat, docAdler32, ← h, State.adlerSums, BitVec.toNat_ofNat]
  omega

/-- One subtraction reduces a sum of two reduced values (R133). -/
theorem mod_adlerMod_of_lt_double {n : Nat} (h : n < 2 * 65521) : n % 65521 = n ∨ n % 65521 + 65521 = n := by
  omega

/-- Each number between the modulus and 2^16 has a prime factor of at most 19. -/
theorem not_prime_of_adlerMod_lt {p : Nat} (hlo : 65521 < p) (hhi : p < 65536) : ¬ Nat.Prime p := by
  have hfactor : ∃ q ∈ [2, 3, 5, 7, 13, 19], q ∣ p := by
    interval_cases p <;> decide
  have hbounds : ∀ q ∈ [2, 3, 5, 7, 13, 19], 2 ≤ q ∧ q ≤ 19 := by decide
  obtain ⟨q, hq, hdvd⟩ := hfactor
  obtain ⟨htwo, hmax⟩ := hbounds q hq
  exact Nat.not_prime_of_dvd_of_lt hdvd htwo (by omega)

/-- Settles O15: reduced sums add below twice the modulus. -/
theorem adlerUpdateIsExact : Obligations.AdlerUpdateIsExact := by
  unfold Obligations.AdlerUpdateIsExact
  refine ⟨fun s b ⟨hA, hB⟩ => ?_, by norm_num, fun _ => not_prime_of_adlerMod_lt⟩
  obtain ⟨hA', hB'⟩ := adlerUpdate_reduced b s
  have := b.isLt
  refine ⟨⟨hA', hB'⟩, by omega, by omega, ?_, ?_⟩
  · rw [State.adlerUpdate_adlA, adlerA_toNat]
    exact mod_adlerMod_of_lt_double (by omega)
  · rw [State.adlerUpdate_adlB, ← State.adlerUpdate_adlA, adlerB_toNat]
    exact mod_adlerMod_of_lt_double (by omega)

end Sys2Proof.Machine
end

section
/-! SUPPORT. The Adler-32 commands (42_adler.md). Settles O12 to O14 and O16. -/

namespace Sys2Proof.Machine

/-! One command. -/

theorem stateCheck_adlInit_of_idle {s : State} (h : s.zact = false) : stateCheck .adlInit s = none := by
  simp [stateCheck, h]

theorem stateCheck_adlByte_of_idle (b : Byte) {s : State} (h : s.zact = false) : stateCheck (.adlByte b) s = none := by
  simp [stateCheck, h]

theorem exec_adlInit {s : State} (hfits : s.QueueFits) (hidle : s.zact = false) :
    exec .adlInit s = .next s.adlerInit :=
  exec_of_pushes_nothing (stateCheck_adlInit_of_idle hidle) rfl hfits

theorem exec_adlByte (b : Byte) {s : State} (hfits : s.QueueFits) (hidle : s.zact = false) :
    exec (.adlByte b) s = .next (s.adlerUpdate b) :=
  exec_of_pushes_nothing (stateCheck_adlByte_of_idle b hidle) rfl hfits

theorem exec_adlFinal {s : State} (h : s.QueueFits) : exec .adlFinal s = .next { s with result := s.adler } :=
  exec_of_pushes_nothing rfl rfl h

/-- The update with its sums written out, on exact naturals (R131, R133). -/
theorem adlerUpdate_eq (s : State) (b : Byte) :
    s.adlerUpdate b = { s with
      adlA := BitVec.ofNat 16 ((s.adlA.toNat + b.toNat) % 65521)
      adlB := BitVec.ofNat 16 ((s.adlB.toNat + (s.adlA.toNat + b.toNat) % 65521) % 65521) } := by
  rw [State.adlerUpdate, adlerB, adlerA_toNat]
  rfl

/-- Settles O12: ADL.INIT pushes nothing, and its state check is ZACT. -/
theorem adlInitStartsTheSums : Obligations.AdlInitStartsTheSums := by
  unfold Obligations.AdlInitStartsTheSums
  exact ⟨hasOneWord_encode (i := .adlInit) rfl, fun _ => exec_adlInit, fun _ hopen => exec_of_stateCheck (if_pos hopen)⟩

/-- Settles O13: ADL.BYTE pushes nothing, its state check is ZACT, and its effect is the Adler update. -/
theorem adlByteFeedsOneByte : Obligations.AdlByteFeedsOneByte := by
  unfold Obligations.AdlByteFeedsOneByte
  refine ⟨hasByteWords_commandOf (m := .adlByte) rfl, fun s b hfits hidle => ?_, fun s b hopen => ?_⟩
  · rw [exec_adlByte b hfits hidle, adlerUpdate_eq]
  · exact exec_of_stateCheck (if_pos hopen)

/-- Settles O14: ADL.FINAL takes no operand, has no state check and pushes nothing. -/
theorem adlFinalWritesResult : Obligations.AdlFinalWritesResult := by
  unfold Obligations.AdlFinalWritesResult
  exact ⟨hasOneWord_encode (i := .adlFinal) rfl, fun _ => exec_adlFinal⟩

/-! The commands of `ADL.OF` (R98, R134). -/

/-- ADL.BYTE of each byte of a sequence folds the update over it. -/
theorem reactAll_adlStr (d : List Byte) {s : State} (hfits : s.QueueFits) (hidle : s.zact = false) :
    reactAll ((Pseudo.adlStr d).expand s.config) s = .next (d.foldl State.adlerUpdate s) := by
  refine reactAll_issue_each (f := .adlByte) (P := fun t => t.QueueFits ∧ t.zact = false) ?_ d ⟨hfits, hidle⟩
  intro b t ⟨htfits, htidle⟩
  exact ⟨commandError_none_iff.2 ⟨stateCheck_adlByte_of_idle b htidle, htfits⟩, htfits, htidle⟩

/-- Only the sums change over a sequence of updates. -/
theorem foldl_adlerUpdate_frame (d : List Byte) (s : State) :
    d.foldl State.adlerUpdate s = { s with
      adlA := (d.foldl State.adlerUpdate s).adlA
      adlB := (d.foldl State.adlerUpdate s).adlB } := by
  induction d generalizing s with
  | nil => rfl
  | cons b d ih => exact ih (s.adlerUpdate b)

/-- The state after the starting sums and one update for each byte. -/
theorem foldl_adlerUpdate_adlerInit (d : List Byte) (s : State) :
    d.foldl State.adlerUpdate s.adlerInit = { s with
      adlA := BitVec.ofNat 16 (docAdlerSums d).1
      adlB := BitVec.ofNat 16 (docAdlerSums d).2 } := by
  rw [← adlerSums_of_bytes d s, State.adlerSums, BitVec.ofNat_toNat, BitVec.ofNat_toNat, BitVec.setWidth_eq,
    BitVec.setWidth_eq]
  exact foldl_adlerUpdate_frame d s.adlerInit

/-- Settles O16: the updates leave the document's sums, and RESULT gets the word they make. -/
theorem adlerCommandsComputeAdler32 : Obligations.AdlerCommandsComputeAdler32 := by
  unfold Obligations.AdlerCommandsComputeAdler32
  refine ⟨fun d s hfits hidle => ?_, rfl, by decide⟩
  have hinit : react (issueOf s.config .adlInit) s = .next s.adlerInit := by
    rw [react_issueOf, exec_adlInit hfits hidle]
  have hbytes := reactAll_adlStr d (s := s.adlerInit) hfits hidle
  have hfitsAfter : (d.foldl State.adlerUpdate s.adlerInit).QueueFits := by
    rw [foldl_adlerUpdate_adlerInit]
    exact hfits
  have hfinal := (react_issueOf .adlFinal _).trans (exec_adlFinal hfitsAfter)
  rw [adler_eq_docAdler32 (adlerSums_of_bytes d s), foldl_adlerUpdate_adlerInit] at hfinal
  rw [foldl_adlerUpdate_adlerInit] at hbytes
  rw [Pseudo.expand, reactAll_cons hinit]
  exact (reactAll_append hbytes _).trans (reactAll_cons hfinal [])

end Sys2Proof.Machine
end

section
/-! SUPPORT. Commands that push, with and without room in OUTQ, and the host's write to ARG (R61, R74, R94, R99,
R223). -/

namespace Sys2Proof.Machine

/-- A command that passes its state check and whose pushes fit has its effect (R94). -/
theorem exec_of_room {i : Instr} {s : State} (hcheck : stateCheck i s = none)
    (hroom : s.outq.length + pushCount i s ≤ s.config.outqDepth) : exec i s = .next (effectOf i s) :=
  exec_of_no_error (commandError_none_iff.2 ⟨hcheck, hroom⟩)

/-- A command that passes its state check and whose pushes do not fit only records OUT_OVF (R94, R223). -/
theorem exec_of_no_room {i : Instr} {s : State} (hcheck : stateCheck i s = none)
    (hfull : s.config.outqDepth < s.outq.length + pushCount i s) : exec i s = .next (s.recordError .outOvf) :=
  exec_of_error (commandError_outOvf_iff.2 ⟨hcheck, hfull⟩)

/-- `W ARG, v` sets ARG (R61, R99). -/
theorem react_writeReg_arg (v : Word) (s : State) : react (writeReg s.config .arg v) s = .next { s with arg := v } := by
  rw [writeReg, react_write_base (offset_lt .arg), busWrite_arg]

end Sys2Proof.Machine
end

section
/-! SUPPORT. The big-endian codec (43_becodec.md): a byte shifted into DEC multiplies it by 256
modulo 2^32, so four bytes leave nothing of what DEC held. Settles O17 to O21. -/

namespace Sys2Proof.Machine

/-! A byte shifted into DEC (R153). -/

/-- What BE.DEC leaves in DEC: the effect's value, as a function of DEC and the byte. -/
def decShift (d : Word) (b : Byte) : Word := d <<< 8 ||| imm32 b

/-- The top byte is lost, and the others move up by a byte. -/
theorem decShift_toNat (d : Word) (b : Byte) : (decShift d b).toNat = d.toNat % 2 ^ 24 * 256 + b.toNat := by
  have hhi : (d <<< 8).toNat = d.toNat % 2 ^ 24 * 2 ^ 8 := by
    rw [BitVec.toNat_shiftLeft, Nat.shiftLeft_eq]
    omega
  have hlo : (imm32 b).toNat = b.toNat := BitVec.toNat_setWidth_of_le (by decide)
  exact toNat_or_of_disjoint 8 hhi hlo (Nat.dvd_mul_left _ _) b.isLt

/-- Shifting in the four bytes of `u32_be(v)` gives `v`, whatever DEC held (R155). -/
theorem foldl_decShift_u32be (v d : Word) : (u32be v).foldl decShift d = v := by
  apply BitVec.eq_of_toNat_eq
  have := v.isLt
  simp only [u32be, List.foldl_cons, List.foldl_nil, decShift_toNat, extractLsb'_toNat_eq_div_mod]
  omega

/-! One command. -/

theorem exec_beEnca {s : State} (h : s.outq.length + 4 ≤ s.config.outqDepth) :
    exec .beEnca s = .next (s.pushAll (u32be s.arg)) :=
  exec_of_room rfl h

theorem exec_beEncr {s : State} (h : s.outq.length + 4 ≤ s.config.outqDepth) :
    exec .beEncr s = .next (s.pushAll (u32be s.result)) :=
  exec_of_room rfl h

theorem exec_beDec (b : Byte) {s : State} (h : s.QueueFits) :
    exec (.beDec b) s = .next { s with dec := decShift s.dec b } :=
  exec_of_pushes_nothing rfl rfl h

theorem exec_beDclr {s : State} (h : s.QueueFits) : exec .beDclr s = .next { s with dec := 0x00000000#32 } :=
  exec_of_pushes_nothing rfl rfl h

/-- Settles O17: BE.ENCA takes no operand, has no state check and pushes four bytes. -/
theorem beEncaPushesArg : Obligations.BeEncaPushesArg := by
  unfold Obligations.BeEncaPushesArg
  exact ⟨hasOneWord_encode (i := .beEnca) rfl, fun _ => exec_beEnca, fun _ hfull => exec_of_no_room rfl hfull⟩

/-- Settles O18: BE.ENCR takes no operand, has no state check and pushes four bytes. -/
theorem beEncrPushesResult : Obligations.BeEncrPushesResult := by
  unfold Obligations.BeEncrPushesResult
  exact ⟨hasOneWord_encode (i := .beEncr) rfl, fun _ => exec_beEncr, fun _ hfull => exec_of_no_room rfl hfull⟩

/-- Settles O19: the shift's value as a number is where the top byte is lost. -/
theorem beDecShiftsOneByteIn : Obligations.BeDecShiftsOneByteIn := by
  unfold Obligations.BeDecShiftsOneByteIn
  exact ⟨hasByteWords_commandOf (m := .beDec) rfl, fun s b h => ⟨exec_beDec b h, decShift_toNat s.dec b⟩⟩

/-- Settles O20: BE.DCLR takes no operand, has no state check and pushes nothing. -/
theorem beDclrClearsDec : Obligations.BeDclrClearsDec := by
  unfold Obligations.BeDclrClearsDec
  exact ⟨hasOneWord_encode (i := .beDclr) rfl, fun _ => exec_beDclr⟩

/-! The commands of `BE.DECW` and `ENC` (R98, R155). -/

/-- Only DEC changes over the effects of BE.DEC of each byte of a sequence. -/
theorem foldl_effectOf_beDec (d : List Byte) (s : State) :
    d.foldl (fun t b => effectOf (.beDec b) t) s = { s with dec := d.foldl decShift s.dec } := by
  induction d generalizing s with
  | nil => rfl
  | cons b d ih => exact ih { s with dec := decShift s.dec b }

/-- BE.DEC of each byte of a sequence folds the shift over it. -/
theorem reactAll_issue_beDec (d : List Byte) {s : State} (h : s.QueueFits) :
    reactAll (d.map fun b => issueOf s.config (.beDec b)) s = .next { s with dec := d.foldl decShift s.dec } := by
  rw [← foldl_effectOf_beDec]
  exact reactAll_issue_each (f := .beDec) (P := fun t => t.QueueFits)
    (fun _ _ ht => ⟨commandError_none_iff.2 ⟨rfl, ht⟩, ht⟩) d h

/-- Settles O21: four shifts fill DEC, and BE.ENCA pushes the ARG just written. -/
theorem codecEncodesAndDecodes : Obligations.CodecEncodesAndDecodes := by
  unfold Obligations.CodecEncodesAndDecodes
  refine ⟨fun v s hfits => ?_, fun v s hroom => ?_⟩
  · rw [Pseudo.expand, reactAll_issue_beDec _ hfits, foldl_decShift_u32be]
  · have henca := (react_issueOf .beEnca { s with arg := v }).trans (exec_beEnca hroom)
    rw [Pseudo.expand, reactAll_cons (react_writeReg_arg v s)]
    exact reactAll_cons henca []

end Sys2Proof.Machine
end

section
/-! SUPPORT. The bytes of a block's header as numbers, and the trailer (R173, R174, R176, R177). Settles O22. -/

namespace Sys2Proof.Machine

theorem byteAt_toNat (n k : Nat) : (byteAt n k).toNat = n / 256 ^ k % 256 := BitVec.toNat_ofNat _ 8

/-- The byte of a word at bit `8 * k` is the byte of its value at `256 ^ k`. -/
theorem extractLsb'_eq_byteAt {w : Nat} (v : BitVec w) (k : Nat) : v.extractLsb' (8 * k) 8 = byteAt v.toNat k := by
  apply BitVec.eq_of_toNat_eq
  rw [BitVec.extractLsb'_toNat, Nat.shiftRight_eq_div_pow, byteAt_toNat, Nat.pow_mul]

/-- R174's byte order. -/
theorem u16le_eq_byteAt (v : Half) : u16le v = [byteAt v.toNat 0, byteAt v.toNat 1] := by
  rw [← extractLsb'_eq_byteAt, ← extractLsb'_eq_byteAt, u16le]

/-- The trailer's byte order is that of `u32_be` (R150, R176). -/
theorem trailer_eq_u32be (v : Word) : trailer v = u32be v := by
  simp only [trailer, ← extractLsb'_eq_byteAt, u32be]

/-- H, LEN and NLEN as bytes of numbers: NLEN is the one's complement of LEN (R173, R174). -/
theorem blockHeaderBytes_eq (last : Bool) (len : Half) :
    blockHeaderBytes last len = [if last then 0x01#8 else 0x00#8, byteAt len.toNat 0, byteAt len.toNat 1,
      byteAt (65535 - len.toNat) 0, byteAt (65535 - len.toNat) 1] := by
  have hflag : blockHeaderByte last = if last then 0x01#8 else 0x00#8 := by cases last <;> rfl
  rw [blockHeaderBytes, u16le_eq_byteAt, u16le_eq_byteAt, BitVec.toNat_not, hflag]
  rfl

theorem byteAt_zero (n : Nat) : byteAt n 0 = BitVec.ofNat 8 (n % 256) := by
  apply BitVec.eq_of_toNat_eq
  simp [byteAt]

theorem byteAt_one (n : Nat) : byteAt n 1 = BitVec.ofNat 8 (n / 256) := rfl

/-- Settles O22: LEN is `min(r, 65535)`, and each byte of the header is a byte of that number or of its complement. -/
theorem blockHeaderOpensABlock : Obligations.BlockHeaderOpensABlock := by
  unfold Obligations.BlockHeaderOpensABlock
  intro s r _
  have hflag : (if blockIsLast r then 0x01#8 else 0x00#8) = BitVec.ofNat 8 (if r.toNat ≤ 65535 then 1 else 0) := by
    by_cases hr : r.toNat ≤ 65535
    · rw [if_pos ((blockIsLast_iff r).2 hr), if_pos hr]
    · rw [if_neg (mt (blockIsLast_iff r).1 hr), if_neg hr]
  rw [State.blockHeader, State.pushAll, blockHeaderBytes_eq, blockLength_toNat, hflag, byteAt_zero, byteAt_zero,
    byteAt_one, byteAt_one]
  rfl

end Sys2Proof.Machine
end

section
/-! SUPPORT. The framer's commands and the other commands beside them (R178 to R180, R182, R184). Settles O23, O24, O25,
O30 and O31. -/

namespace Sys2Proof.Machine

/-! State checks and push counts (R178, R179, R184). -/

theorem stateCheck_zStart_of_idle {s : State} (h : s.zact = false) : stateCheck .zStart s = none := by
  simp [stateCheck, h]

theorem stateCheck_zStart_of_open {s : State} (h : s.zact = true) : stateCheck .zStart s = some .zseq := by
  simp [stateCheck, h]

theorem stateCheck_zData_of_open (b : Byte) {s : State} (h : s.zact = true) : stateCheck (.zData b) s = none := by
  simp [stateCheck, h]

theorem stateCheck_zData_of_idle (b : Byte) {s : State} (h : s.zact = false) :
    stateCheck (.zData b) s = some .zseq := by
  simp [stateCheck, h]

theorem idle_of_stateCheck_zStart {s : State} (h : stateCheck .zStart s = none) : s.zact = false := by
  simpa [stateCheck] using h

theorem open_of_stateCheck_zData {b : Byte} {s : State} (h : stateCheck (.zData b) s = none) : s.zact = true := by
  simpa [stateCheck] using h

theorem pushCount_zStart_of_arg_zero {s : State} (h : s.arg = 0#32) : pushCount .zStart s = 11 := if_pos h

theorem pushCount_zStart_of_arg_ne_zero {s : State} (h : s.arg ≠ 0#32) : pushCount .zStart s = 7 := if_neg h

theorem pushCount_zData_within_block (b : Byte) {s : State} (hblk : s.zblk ≠ 1#16) : pushCount (.zData b) s = 1 :=
  if_neg hblk

theorem pushCount_zData_ends_block (b : Byte) {s : State} (hblk : s.zblk = 1#16) (hrem : s.zrem ≠ 1#32) :
    pushCount (.zData b) s = 6 := by
  simp [pushCount, hblk, hrem]

theorem pushCount_zData_ends_stream (b : Byte) {s : State} (hblk : s.zblk = 1#16) (hrem : s.zrem = 1#32) :
    pushCount (.zData b) s = 5 := by
  simp [pushCount, hblk, hrem]

theorem pushCount_le_eleven (i : Instr) (s : State) : pushCount i s ≤ 11 := by
  cases i with
  | zStart =>
    rw [pushCount]
    split_ifs <;> decide
  | zData b =>
    rw [pushCount]
    split_ifs <;> decide
  | _ => simp [pushCount]

/-- A counter that a statement bounds as a number, as the commands compare it. -/
theorem eq_one_of_toNat {n : Nat} {v : BitVec n} (h : v.toNat = 1) (hn : 0 < n := by decide) : v = 1#n := by
  apply BitVec.eq_of_toNat_eq
  rw [h, BitVec.toNat_ofNat, Nat.one_mod_two_pow_eq_one.2 hn]

theorem ne_one_of_one_lt_toNat {n : Nat} {v : BitVec n} (h : 1 < v.toNat) : v ≠ 1#n := by
  rintro rfl
  exact absurd h (Nat.not_lt.2 (Nat.mod_le 1 _))

/-! Z.START, Z.DATA and Z.ABORT. -/

/-- Settles O23: the state check is ZACT, the room needed is 11 or 7 bytes, and the effect is that of each case. -/
theorem zStartOpensAStream : Obligations.ZStartOpensAStream := by
  unfold Obligations.ZStartOpensAStream
  refine ⟨hasOneWord_encode (i := .zStart) rfl, fun s hopen => exec_of_stateCheck (stateCheck_zStart_of_open hopen),
    fun s hidle harg hroom => ?_, fun s hidle harg hroom => ?_, fun s hidle harg hfull => ?_,
    fun s hidle harg hfull => ?_⟩
  · rw [← pushCount_zStart_of_arg_zero harg] at hroom
    rw [exec_of_room (stateCheck_zStart_of_idle hidle) hroom, effectOf, zStartEffect_of_arg_zero harg]
    simp [State.setDone, State.pushAll, State.adlerInit, zlibHeader, u32be]
  · rw [← pushCount_zStart_of_arg_ne_zero harg] at hroom
    rw [exec_of_room (stateCheck_zStart_of_idle hidle) hroom, effectOf, zStartEffect_of_arg_ne_zero harg]
    simp [State.openStream, State.blockHeader, State.setDone, State.pushAll, State.adlerInit, zlibHeader]
  · rw [← pushCount_zStart_of_arg_zero harg] at hfull
    exact exec_of_no_room (stateCheck_zStart_of_idle hidle) hfull
  · rw [← pushCount_zStart_of_arg_ne_zero harg] at hfull
    exact exec_of_no_room (stateCheck_zStart_of_idle hidle) hfull

/-- Settles O24: the state check is ZACT, and ZBLK and ZREM tell a byte within a block from one that ends a block or the
stream. -/
theorem zDataFeedsOneByte : Obligations.ZDataFeedsOneByte := by
  unfold Obligations.ZDataFeedsOneByte
  refine ⟨hasByteWords_commandOf (m := .zData) rfl,
    fun s b hidle => exec_of_stateCheck (stateCheck_zData_of_idle b hidle), fun s b hopen hblk hroom => ?_,
    fun s b hopen hblk hrem hroom => ?_, fun s b hopen hblk hrem hroom => ?_, fun s b hopen hfull => ?_⟩
  · have hblk' := ne_one_of_one_lt_toNat hblk
    rw [← pushCount_zData_within_block b hblk'] at hroom
    rw [exec_of_room (stateCheck_zData_of_open b hopen) hroom, effectOf, zDataEffect_within_block b hblk']
    rfl
  · have hblk' := eq_one_of_toNat hblk
    have hrem' := eq_one_of_toNat hrem
    rw [← pushCount_zData_ends_stream b hblk' hrem'] at hroom
    rw [exec_of_room (stateCheck_zData_of_open b hopen) hroom, effectOf, zDataEffect_ends_stream b hblk' hrem']
    simp [State.closeStream, State.pushAll, State.countDown, State.adlerUpdate, State.push, State.adler, hblk', hrem']
  · have hblk' := eq_one_of_toNat hblk
    have hrem' := ne_one_of_one_lt_toNat hrem
    rw [← pushCount_zData_ends_block b hblk' hrem'] at hroom
    rw [exec_of_room (stateCheck_zData_of_open b hopen) hroom, effectOf, zDataEffect_ends_block b hblk' hrem']
    simp [State.blockHeader, State.pushAll, State.countDown, State.adlerUpdate, State.push]
  · refine exec_of_no_room (stateCheck_zData_of_open b hopen) ?_
    rcases hfull with ⟨hblk, hfull⟩ | ⟨hblk, hrem, hfull⟩ | ⟨hblk, hrem, hfull⟩
    · rwa [pushCount_zData_within_block b (ne_one_of_one_lt_toNat hblk)]
    · rwa [pushCount_zData_ends_stream b (eq_one_of_toNat hblk) (eq_one_of_toNat hrem)]
    · rwa [pushCount_zData_ends_block b (eq_one_of_toNat hblk) (ne_one_of_one_lt_toNat hrem)]

/-- Settles O25: Z.ABORT takes no operand, has no state check and pushes nothing. -/
theorem zAbortAbandonsTheStream : Obligations.ZAbortAbandonsTheStream := by
  unfold Obligations.ZAbortAbandonsTheStream
  exact ⟨hasOneWord_encode (i := .zAbort) rfl, fun _ h => exec_of_pushes_nothing rfl rfl h⟩

/-! What a command pushes (R184). -/

theorem zStartEffect_outq_of_arg_zero {s : State} (h : s.arg = 0#32) :
    (zStartEffect s).outq =
      s.outq ++ (zlibHeader ++ [0x01#8, 0x00#8, 0x00#8, 0xFF#8, 0xFF#8] ++ u32be 0x00000001#32) := by
  simp [zStartEffect_of_arg_zero h]

theorem zStartEffect_outq_of_arg_ne_zero {s : State} (h : s.arg ≠ 0#32) :
    (zStartEffect s).outq =
      s.outq ++ (zlibHeader ++ blockHeaderBytes (blockIsLast s.arg) (blockLength s.arg)) := by
  simp [zStartEffect_of_arg_ne_zero h]

theorem zDataEffect_outq_within_block (b : Byte) {s : State} (hblk : s.zblk ≠ 1#16) :
    (zDataEffect b s).outq = s.outq ++ [b] := by
  simp [zDataEffect_within_block b hblk]

theorem zDataEffect_outq_ends_block (b : Byte) {s : State} (hblk : s.zblk = 1#16) (hrem : s.zrem ≠ 1#32) :
    (zDataEffect b s).outq =
      s.outq ++ b :: blockHeaderBytes (blockIsLast (s.zrem - 1#32)) (blockLength (s.zrem - 1#32)) := by
  simp [zDataEffect_ends_block b hblk hrem]

theorem zDataEffect_outq_ends_stream (b : Byte) {s : State} (hblk : s.zblk = 1#16) (hrem : s.zrem = 1#32) :
    (zDataEffect b s).outq = s.outq ++ b :: u32be (s.adlerUpdate b).adler := by
  simp [zDataEffect_ends_stream b hblk hrem]

/-- Every command but SRESET only appends to OUTQ. -/
theorem effectOf_outq_append {i : Instr} (hi : i ≠ .sreset) (s : State) :
    ∃ out, (effectOf i s).outq = s.outq ++ out := by
  cases i with
  | sreset => exact absurd rfl hi
  | beEnca | beEncr => exact ⟨_, rfl⟩
  | zStart =>
    by_cases harg : s.arg = 0#32
    · exact ⟨_, zStartEffect_outq_of_arg_zero harg⟩
    · exact ⟨_, zStartEffect_outq_of_arg_ne_zero harg⟩
  | zData b =>
    by_cases hblk : s.zblk = 1#16
    · by_cases hrem : s.zrem = 1#32
      · exact ⟨_, zDataEffect_outq_ends_stream b hblk hrem⟩
      · exact ⟨_, zDataEffect_outq_ends_block b hblk hrem⟩
    · exact ⟨_, zDataEffect_outq_within_block b hblk⟩
  | _ => exact ⟨[], (List.append_nil _).symm⟩

/-- Every command but SRESET appends exactly the bytes that R184 counts. -/
theorem effectOf_outq {i : Instr} (hi : i ≠ .sreset) (s : State) :
    ∃ out, (effectOf i s).outq = s.outq ++ out ∧ out.length = pushCount i s := by
  obtain ⟨out, hout⟩ := effectOf_outq_append hi s
  have hlen := effectOf_outq_length hi s
  rw [hout, List.length_append] at hlen
  exact ⟨out, hout, Nat.add_left_cancel hlen⟩

theorem pushCount_eq_zero {i : Instr} (s : State) (henca : i ≠ .beEnca) (hencr : i ≠ .beEncr)
    (hstart : i ≠ .zStart) (hdata : ∀ b, i ≠ .zData b) : pushCount i s = 0 := by
  cases i with
  | beEnca => exact absurd rfl henca
  | beEncr => exact absurd rfl hencr
  | zStart => exact absurd rfl hstart
  | zData b => exact absurd rfl (hdata b)
  | _ => rfl

/-- Settles O31: the bytes appended are as many as `pushCount`, whose rows are those of the table. -/
theorem pushCountsAreExact : Obligations.PushCountsAreExact := by
  unfold Obligations.PushCountsAreExact
  intro i s t _ hnone hi hexec
  rw [exec_of_no_error hnone] at hexec
  cases hexec
  obtain ⟨out, hout, hlen⟩ := effectOf_outq hi s
  refine ⟨out, hout, hlen ▸ pushCount_le_eleven i s, ?_, ?_, ?_, ?_, ?_, ?_, ?_⟩
  · rintro (rfl | rfl) <;> exact hlen
  · rintro rfl harg
    rw [hlen, pushCount_zStart_of_arg_zero harg]
  · rintro rfl harg
    rw [hlen, pushCount_zStart_of_arg_ne_zero harg]
  · rintro b rfl hblk
    rw [hlen, pushCount_zData_within_block b (ne_one_of_one_lt_toNat hblk)]
  · rintro b rfl hblk hrem
    rw [hlen, pushCount_zData_ends_stream b (eq_one_of_toNat hblk) (eq_one_of_toNat hrem)]
  · rintro b rfl hblk hrem
    rw [hlen, pushCount_zData_ends_block b (eq_one_of_toNat hblk) (ne_one_of_one_lt_toNat hrem)]
  · intro henca hencr hstart hdata
    rw [← List.length_eq_zero_iff, hlen, pushCount_eq_zero s henca hencr hstart hdata]

end Sys2Proof.Machine
end

section
/-! SUPPORT. What commands and events other than the framer's do to a stream (R182). Settles O30. -/

namespace Sys2Proof.Machine

/-- The framer's state and the Adler sums are the same in both states (R26, R28). -/
structure State.SameStream (s t : State) : Prop where
  zact : t.zact = s.zact
  zrem : t.zrem = s.zrem
  zblk : t.zblk = s.zblk
  zfin : t.zfin = s.zfin
  zdone : t.zdone = s.zdone
  adlA : t.adlA = s.adlA
  adlB : t.adlB = s.adlB

namespace State.SameStream

variable {s t : State}

theorem adlerSums (h : s.SameStream t) : t.adlerSums = s.adlerSums := by
  rw [State.adlerSums, State.adlerSums, h.adlA, h.adlB]

theorem framerOk (h : s.SameStream t) (hs : s.FramerOk) : t.FramerOk := by
  simpa only [State.FramerOk, h.zact, h.zrem, h.zblk, h.zfin, h.zdone] using hs

theorem returning (h : s.SameStream t) (v : Word) : s.SameStream (t.returning v) :=
  ⟨h.zact, h.zrem, h.zblk, h.zfin, h.zdone, h.adlA, h.adlB⟩

end State.SameStream

theorem recordError_sameStream (c : ErrorCode) (s : State) : s.SameStream (s.recordError c) := by
  constructor <;> simp

/-- Of the commands that are not the framer's, only SRESET, ADL.INIT and ADL.BYTE write the framer's state or the
sums. -/
theorem effectOf_sameStream {i : Instr} (hframer : isFramerCommand i = false) (hreset : i ≠ .sreset)
    (hinit : i ≠ .adlInit) (hbyte : ∀ b, i ≠ .adlByte b) (s : State) : s.SameStream (effectOf i s) := by
  cases i with
  | zStart | zData | zAbort => cases hframer
  | sreset => exact absurd rfl hreset
  | adlInit => exact absurd rfl hinit
  | adlByte b => exact absurd rfl (hbyte b)
  | _ => exact ⟨rfl, rfl, rfl, rfl, rfl, rfl, rfl⟩

/-- While a stream is open, the commands that the state check turns away for it (R182). -/
theorem stateCheck_ne_none_iff_of_open (i : Instr) {s : State} (h : s.zact = true) :
    stateCheck i s ≠ none ↔ i = .adlInit ∨ (∃ b, i = .adlByte b) ∨ i = .zStart := by
  cases i <;> simp [stateCheck, h]

theorem effectOf_keeps_zact {i : Instr} (hframer : isFramerCommand i = false) (hreset : i ≠ .sreset) (s : State) :
    (effectOf i s).zact = s.zact := by
  by_contra hwrites
  rcases effectOf_writes_framer i s (.inl hwrites) with rfl | ⟨b, rfl⟩ | rfl | rfl
  · cases hframer
  · cases hframer
  · cases hframer
  · exact hreset rfl

/-- A command that is not the framer's leaves the stream alone, or leaves none open; only SRESET ends an open one. -/
theorem exec_beside_stream {i : Instr} {s t : State} (hframer : isFramerCommand i = false)
    (h : exec i s = .next t) : s.SameStream t ∨ t.zact = false ∧ (s.zact = true → i = .sreset) := by
  rcases exec_cases h with ⟨hnone, rfl⟩ | ⟨c, -, rfl⟩
  · by_cases hreset : i = .sreset
    · exact .inr ⟨by rw [hreset]; rfl, fun _ => hreset⟩
    · by_cases hopen : s.zact = true
      · obtain ⟨hcheck, -⟩ := commandError_none_iff.1 hnone
        have hpass := mt (stateCheck_ne_none_iff_of_open i hopen).2 (not_not.2 hcheck)
        simp only [not_or, not_exists] at hpass
        obtain ⟨hinit, hbyte, -⟩ := hpass
        exact .inl (effectOf_sameStream hframer hreset hinit hbyte s)
      · rw [effectOf_keeps_zact hframer hreset]
        exact .inr ⟨Bool.eq_false_iff.2 hopen, fun hopen' => absurd hopen' hopen⟩
  · exact .inl (recordError_sameStream c s)

/-- An event that is no framer command leaves the stream alone, or leaves none open; only a reset of the block ends an
open one. -/
theorem react_beside_stream {e : HostEvent} {s t : State} (hframer : isFramerEvent s.config e = false)
    (h : react e s = .next t) :
    s.SameStream t ∨ t.zact = false ∧ (s.zact = true → isResetEvent s.config e = true) := by
  rcases react_cases h with rfl | ⟨c, rfl⟩ | ⟨v, rfl⟩ | ⟨i, hi, hcmd⟩ | ⟨v, rfl⟩ | ⟨c, v, rfl⟩ |
    ⟨b, rest, -, rfl⟩ | ⟨rfl, rfl⟩
  · exact .inl ⟨rfl, rfl, rfl, rfl, rfl, rfl, rfl⟩
  · exact .inl (recordError_sameStream c s)
  · exact .inl ⟨rfl, rfl, rfl, rfl, rfl, rfl, rfl⟩
  · rw [isFramerEvent, hcmd] at hframer
    refine (exec_beside_stream hframer hi).imp_right fun ⟨hclosed, hreset⟩ => ⟨hclosed, fun hopen => ?_⟩
    simp [isResetEvent, hcmd, hreset hopen]
  · exact .inl ⟨rfl, rfl, rfl, rfl, rfl, rfl, rfl⟩
  · exact .inl ((recordError_sameStream c s).returning v)
  · exact .inl ⟨rfl, rfl, rfl, rfl, rfl, rfl, rfl⟩
  · exact .inr ⟨rfl, fun _ => rfl⟩

/-- A command that has no state check, pushes nothing and keeps the stream runs in every framer state. -/
theorem exec_keeps_stream_and_queue {i : Instr} {s : State} (hcheck : stateCheck i s = none) (hpush : pushCount i s = 0)
    (hsame : s.SameStream (effectOf i s)) (hqueue : (effectOf i s).outq = s.outq) (hfits : s.QueueFits) :
    ∃ t, exec i s = .next t ∧ commandError i s = none ∧ t.zact = s.zact ∧ t.zrem = s.zrem ∧ t.zblk = s.zblk ∧
      t.zfin = s.zfin ∧ t.zdone = s.zdone ∧ t.outq = s.outq :=
  ⟨effectOf i s, exec_of_pushes_nothing hcheck hpush hfits, commandError_none_iff.2 ⟨hcheck, by rwa [hpush]⟩,
    hsame.zact, hsame.zrem, hsame.zblk, hsame.zfin, hsame.zdone, hqueue⟩

/-- Settles O30: each command of R182 passes with nothing to push and keeps the stream, and only three are turned away
for an open one. -/
theorem otherCommandsLeaveTheFramerAlone : Obligations.OtherCommandsLeaveTheFramerAlone := by
  unfold Obligations.OtherCommandsLeaveTheFramerAlone
  refine ⟨fun i s hi hfits => ?_, fun i _ hopen => stateCheck_ne_none_iff_of_open i hopen⟩
  simp only [List.mem_cons, List.not_mem_nil, or_false] at hi
  rcases hi with ⟨b, rfl | rfl | rfl⟩ | rfl | rfl | rfl | rfl | rfl | rfl
  all_goals exact exec_keeps_stream_and_queue rfl rfl ⟨rfl, rfl, rfl, rfl, rfl, rfl, rfl⟩ rfl hfits

end Sys2Proof.Machine
end

section
/-! SUPPORT. Greedy splitting into blocks (R172): the split as a recursion on the sequence, and the induction that goes
with it. Settles O28. -/

namespace Sys2Proof.Machine

theorem splitBlocks_of_le {d : List Byte} (h : d.length ≤ 65535) : splitBlocks d = [d] := by
  unfold splitBlocks splitFuel
  split
  · rfl
  · exact if_pos h

theorem splitBlocks_of_lt {d : List Byte} (h : 65535 < d.length) :
    splitBlocks d = d.take 65535 :: splitBlocks (d.drop 65535) := by
  have hfuel : d.length / 65535 = (d.drop 65535).length / 65535 + 1 := by
    rw [List.length_drop]
    omega
  rw [splitBlocks, hfuel, splitFuel, if_neg (Nat.not_le.2 h), splitBlocks]

/-- A statement about a sequence's blocks holds when it holds of a sequence of one block, and of a longer sequence when
it holds of what its first block leaves. -/
theorem blocks_induction {P : List Byte → Prop} (last : ∀ d, d.length ≤ 65535 → P d)
    (more : ∀ d, 65535 < d.length → P (d.drop 65535) → P d) (d : List Byte) : P d := by
  induction hn : d.length using Nat.strong_induction_on generalizing d with
  | _ n ih =>
    by_cases h : d.length ≤ 65535
    · exact last d h
    · refine more d (by omega) (ih (d.drop 65535).length ?_ _ rfl)
      rw [List.length_drop]
      omega

theorem splitBlocks_ne_nil (d : List Byte) : splitBlocks d ≠ [] := by
  by_cases h : d.length ≤ 65535
  · rw [splitBlocks_of_le h]
    exact List.cons_ne_nil _ _
  · rw [splitBlocks_of_lt (Nat.not_le.1 h)]
    exact List.cons_ne_nil _ _

/-- Together the blocks are the sequence. -/
theorem splitBlocks_flatten (d : List Byte) : (splitBlocks d).flatten = d := by
  induction d using blocks_induction with
  | last d h => rw [splitBlocks_of_le h, List.flatten_singleton]
  | more d h ih => rw [splitBlocks_of_lt h, List.flatten_cons, ih, List.take_append_drop]

/-- Every block but the last is full, and the last has what remains. -/
theorem splitBlocks_lengths {d : List Byte} (hd : d ≠ []) :
    (splitBlocks d).map List.length =
      List.replicate ((d.length + 65534) / 65535 - 1) 65535 ++
        [d.length - 65535 * ((d.length + 65534) / 65535 - 1)] := by
  induction d using blocks_induction with
  | last d h =>
    have hpos := List.length_pos_iff.2 hd
    have hone : (d.length + 65534) / 65535 - 1 = 0 := by omega
    rw [splitBlocks_of_le h, hone]
    rfl
  | more d h ih =>
    have hrest : (d.drop 65535).length = d.length - 65535 := List.length_drop
    have hcount : (d.length + 65534) / 65535 - 1 = (d.length - 65535 + 65534) / 65535 - 1 + 1 := by omega
    have hlast : d.length - 65535 * ((d.length - 65535 + 65534) / 65535 - 1 + 1) =
        d.length - 65535 - 65535 * ((d.length - 65535 + 65534) / 65535 - 1) := by omega
    have hfirst : (d.take 65535).length = 65535 := List.length_take_of_le h.le
    have hne : d.drop 65535 ≠ [] := List.length_pos_iff.1 (by omega)
    rw [splitBlocks_of_lt h, List.map_cons, hfirst, ih hne, hrest, hcount, hlast, List.replicate_succ,
      List.cons_append]

/-- How many blocks there are: one for an empty sequence. -/
theorem splitBlocks_length (d : List Byte) : (splitBlocks d).length = max 1 ((d.length + 65534) / 65535) := by
  by_cases hd : d = []
  · subst hd
    rfl
  · have hlengths := congrArg List.length (splitBlocks_lengths hd)
    rw [List.length_map, List.length_append, List.length_replicate, List.length_singleton] at hlengths
    omega

/-- Settles O28: the lengths of the blocks, and the last one's bounds. -/
theorem blocksAreSplitGreedily : Obligations.BlocksAreSplitGreedily := by
  unfold Obligations.BlocksAreSplitGreedily
  refine ⟨fun d hd => ?_, rfl⟩
  have hpos := List.length_pos_iff.2 hd
  exact ⟨splitBlocks_lengths hd, by omega, by omega, splitBlocks_flatten d⟩

end Sys2Proof.Machine
end

section
/-! SUPPORT. The stream format (R170 to R176): the size of the framed blocks, and the reader of stored blocks on them.
Settles O29. -/

namespace Sys2Proof.Machine

theorem storedBlock_length (last : Bool) (d : List Byte) : (storedBlock last d).length = 5 + d.length := by
  rw [storedBlock, List.length_append]
  rfl

/-- The last block is marked, and every block before it is not (R173). -/
theorem framedBlocks_cons {blocks : List (List Byte)} (h : blocks ≠ []) (d : List Byte) :
    framedBlocks (d :: blocks) = storedBlock false d ++ framedBlocks blocks := by
  cases blocks with
  | nil => exact absurd rfl h
  | cons e rest => rfl

theorem framedBlocks_length (blocks : List (List Byte)) :
    (framedBlocks blocks).length = blocks.flatten.length + 5 * blocks.length := by
  induction blocks with
  | nil => rfl
  | cons d blocks ih =>
    by_cases h : blocks = []
    · subst h
      simp only [framedBlocks, storedBlock_length, List.flatten_cons, List.flatten_nil, List.append_nil,
        List.length_singleton]
      omega
    · rw [framedBlocks_cons h, List.length_append, storedBlock_length, ih, List.flatten_cons, List.length_append,
        List.length_cons]
      omega

/-- A length of two bytes reads back from them (R174). -/
theorem byteAt_pair {n : Nat} (h : n ≤ 65535) : (byteAt n 0).toNat + 256 * (byteAt n 1).toNat = n := by
  rw [byteAt_toNat, byteAt_toNat]
  omega

/-- The reader takes one well-formed block: it is done after the last, and goes on after any other. -/
theorem readBlocks_storedBlock (fuel : Nat) (last : Bool) {d : List Byte} (h : d.length ≤ 65535) (rest : List Byte) :
    readBlocks (fuel + 1) (storedBlock last d ++ rest) =
      if last then some (d, rest) else (readBlocks fuel rest).map fun r => (d ++ r.1, r.2) := by
  have hlen := byteAt_pair h
  have hnlen := byteAt_pair (Nat.sub_le 65535 d.length)
  simp only [storedBlock, List.cons_append, List.nil_append, readBlocks, hlen, hnlen]
  have hvalid : d.length + (65535 - d.length) = 65535 ∧ d.length ≤ (d ++ rest).length := by
    rw [List.length_append]
    omega
  rw [if_pos hvalid, List.take_left, List.drop_left]
  cases last <;> rfl

/-- The reader reads every block of a sequence, with fuel for each (R172, R173). -/
theorem readBlocks_framedBlocks (d rest : List Byte) {fuel : Nat} (hfuel : (splitBlocks d).length ≤ fuel) :
    readBlocks fuel (framedBlocks (splitBlocks d) ++ rest) = some (d, rest) := by
  induction d using blocks_induction generalizing fuel with
  | last d h =>
    rw [splitBlocks_of_le h] at hfuel ⊢
    obtain ⟨fuel, rfl⟩ := Nat.exists_eq_add_of_le' hfuel
    exact readBlocks_storedBlock fuel true h rest
  | more d h ih =>
    rw [splitBlocks_of_lt h] at hfuel ⊢
    obtain ⟨fuel, rfl⟩ := Nat.exists_eq_add_of_le' (Nat.le_trans (Nat.le_add_left 1 _) hfuel)
    have hfirst : (d.take 65535).length ≤ 65535 := List.length_take_le _ _
    rw [framedBlocks_cons (splitBlocks_ne_nil _), List.append_assoc, readBlocks_storedBlock fuel false hfirst,
      ih (Nat.le_of_succ_le_succ hfuel)]
    simp

/-- Settles O29: the bytes that follow the header are fuel enough, and the trailer validates. -/
theorem zlibStreamReadsBack : Obligations.ZlibStreamReadsBack := by
  unfold Obligations.ZlibStreamReadsBack
  intro d
  have hfuel : (splitBlocks d).length ≤ (framedBlocks (splitBlocks d) ++ trailer (docAdler32 d)).length := by
    rw [List.length_append, framedBlocks_length]
    omega
  have hread := readBlocks_framedBlocks d (trailer (docAdler32 d)) hfuel
  rw [zlibStream, List.append_assoc, List.cons_append, List.cons_append, List.nil_append, readStream,
    if_pos ⟨rfl, rfl⟩, hread]
  exact if_pos rfl

end Sys2Proof.Machine
end

section
/-! SUPPORT. The stream law (R181): what the framer's commands push, block by block, is the document's stream of their
data bytes. Settles O26. -/

namespace Sys2Proof.Machine

/-! What the open block and the blocks after it still push. -/

/-- The bytes from within a block on, up to the trailer: `k` bytes of `d` end the block, and the rest, if any, are
framed in blocks of their own (R172, R173). -/
def openBlocks (k : Nat) (d : List Byte) : List Byte :=
  d.take k ++ if d.length ≤ k then [] else framedBlocks (splitBlocks (d.drop k))

theorem openBlocks_of_length_le {k : Nat} {d : List Byte} (h : d.length ≤ k) : openBlocks k d = d := by
  rw [openBlocks, if_pos h, List.append_nil, List.take_of_length_le h]

theorem openBlocks_of_lt_length {k : Nat} {d : List Byte} (h : k < d.length) :
    openBlocks k d = d.take k ++ framedBlocks (splitBlocks (d.drop k)) := by
  rw [openBlocks, if_neg (Nat.not_le.2 h)]

/-- A data byte is passed through (R179). -/
theorem openBlocks_succ_cons (k : Nat) (b : Byte) (d : List Byte) :
    openBlocks (k + 1) (b :: d) = b :: openBlocks k d := by
  simp [openBlocks]

/-- The document's block is the framer's header bytes and the data (R173, R174). -/
theorem storedBlock_eq (last : Bool) {d : List Byte} {len : Half} (h : len.toNat = d.length) :
    storedBlock last d = blockHeaderBytes last len ++ d := by
  rw [storedBlock, blockHeaderBytes_eq, h]

/-- The blocks of a sequence are the first one's header, as the block-length control makes it, and what follows
(R177). -/
theorem framedBlocks_splitBlocks {d : List Byte} {r : Word} (hr : r.toNat = d.length) :
    framedBlocks (splitBlocks d) =
      blockHeaderBytes (blockIsLast r) (blockLength r) ++ openBlocks (blockLength r).toNat d := by
  have hlen : (blockLength r).toNat = min d.length 65535 := by rw [blockLength_toNat, hr]
  by_cases h : d.length ≤ 65535
  · have hlast : blockIsLast r = true := (blockIsLast_iff r).2 (hr ▸ h)
    rw [Nat.min_eq_left h] at hlen
    rw [splitBlocks_of_le h, hlast, openBlocks_of_length_le hlen.ge]
    exact storedBlock_eq true hlen
  · have hlast : blockIsLast r = false := Bool.eq_false_iff.2 (mt (blockIsLast_iff r).1 (hr ▸ h))
    have hlong : 65535 < d.length := Nat.not_le.1 h
    have hfirst : (d.take 65535).length = 65535 := List.length_take_of_le hlong.le
    rw [Nat.min_eq_right hlong.le] at hlen
    rw [splitBlocks_of_lt hlong, framedBlocks_cons (splitBlocks_ne_nil _),
      storedBlock_eq false (hlen.trans hfirst.symm), hlast, hlen, openBlocks_of_lt_length hlong, List.append_assoc]

/-! The length of a stream (R181). -/

theorem zlibStream_length (d : List Byte) :
    (zlibStream d).length = d.length + 6 + 5 * max 1 ((d.length + 65534) / 65535) := by
  have htrailer : (trailer (docAdler32 d)).length = 4 := rfl
  rw [zlibStream, List.length_append, List.length_append, framedBlocks_length, splitBlocks_flatten, splitBlocks_length,
    htrailer, List.length_cons, List.length_singleton]
  omega

/-! A stream on its way. -/

/-- As long as data bytes are to come, the stream is open and ZREM counts them. -/
def State.Awaits (s : State) (d : List Byte) : Prop :=
  d ≠ [] → s.zact = true ∧ s.zrem.toNat = d.length ∧ s.FramerOk

theorem awaits_of_sameStream {s t : State} {d : List Byte} (h : s.SameStream t) (hs : s.Awaits d) : t.Awaits d :=
  fun hd => by
    obtain ⟨hopen, hrem, hok⟩ := hs hd
    exact ⟨h.zact.trans hopen, by rw [h.zrem, hrem], h.framerOk hok⟩

theorem zStartEffect_awaits {s : State} {d : List Byte} (hlen : d.length ≤ 2 ^ 32 - 1)
    (harg : s.arg = BitVec.ofNat 32 d.length) : (zStartEffect s).Awaits d := fun hd => by
  have hpos := List.length_pos_iff.2 hd
  have hcount : s.arg.toNat = d.length := by
    rw [harg, BitVec.toNat_ofNat]
    omega
  have hne : s.arg ≠ 0#32 := by
    rintro h
    rw [h] at hcount
    exact absurd hcount hpos.ne
  rw [zStartEffect_of_arg_ne_zero hne]
  exact ⟨rfl, hcount, framerOk_of_block_opened rfl rfl hne rfl rfl⟩

/-- One down, where a counter holds at least one. -/
theorem toNat_sub_one {n k : Nat} {v : BitVec n} (h : v.toNat = k + 1) (hn : 0 < n := by decide) :
    (v - 1#n).toNat = k := by
  have hone : (1#n).toNat = 1 := by rw [BitVec.toNat_ofNat, Nat.one_mod_two_pow_eq_one.2 hn]
  have hle : 1#n ≤ v := by
    rw [BitVec.le_def, hone, h]
    omega
  rw [BitVec.toNat_sub_of_le hle, hone, h, Nat.add_sub_cancel]

/-- Unless it is the stream's last, a data byte leaves the stream open with one byte less to come (R179). -/
theorem zDataEffect_zact_zrem (b : Byte) {s : State} (hrem : s.zrem ≠ 1#32) :
    (zDataEffect b s).zact = s.zact ∧ (zDataEffect b s).zrem = s.zrem - 1#32 := by
  by_cases hblk : s.zblk = 1#16
  · rw [zDataEffect_ends_block b hblk hrem]
    exact ⟨rfl, rfl⟩
  · rw [zDataEffect_within_block b hblk]
    exact ⟨rfl, rfl⟩

theorem zDataEffect_awaits {s : State} {b : Byte} {d : List Byte} (hs : s.Awaits (b :: d)) :
    (zDataEffect b s).Awaits d := fun hd => by
  obtain ⟨hopen, hrem, hok⟩ := hs (List.cons_ne_nil b d)
  rw [List.length_cons] at hrem
  have hpos := List.length_pos_iff.2 hd
  obtain ⟨hact', hrem'⟩ := zDataEffect_zact_zrem b (ne_one_of_one_lt_toNat (v := s.zrem) (by omega))
  exact ⟨hact'.trans hopen, by rw [hrem', toNat_sub_one hrem], zDataEffect_keeps_framerOk b hopen hok⟩

theorem adlerSums_zDataEffect (b : Byte) (s : State) :
    (zDataEffect b s).adlerSums = docAdlerByte s.adlerSums b := by
  rw [← adlerSums_adlerUpdate]
  simp [State.adlerSums]

/-! What the rest of a stream pushes. -/

/-- A command that raises no error has its effect, which appends what it pushes (R94). -/
theorem runsPushing_iff {i : Instr} {s t : State} {out : List Byte} :
    RunsPushing i s out t ↔ commandError i s = none ∧ t = effectOf i s ∧ (effectOf i s).outq = s.outq ++ out := by
  constructor
  · rintro ⟨hnone, hexec, hout⟩
    rw [exec_of_no_error hnone] at hexec
    cases hexec
    exact ⟨hnone, rfl, hout⟩
  · rintro ⟨hnone, rfl, hout⟩
    exact ⟨hnone, exec_of_no_error hnone, hout⟩

/-- `Z.DATA` needs an open stream, and no event but a framer command opens one (R178, R179, R182). -/
theorem framerFeed_needs_open {s t : State} {d out : List Byte} (h : FramerFeed s d out t) (hd : d ≠ []) :
    s.zact = true := by
  induction h with
  | done => exact absurd rfl hd
  | data hrun =>
    obtain ⟨hnone, -⟩ := hrun
    obtain ⟨hcheck, -⟩ := commandError_none_iff.1 hnone
    exact open_of_stateCheck_zData hcheck
  | between hframer hreact _ ih =>
    have hopen := ih (List.cons_ne_nil _ _)
    rcases react_beside_stream hframer hreact with hsame | ⟨hclosed, -⟩
    · rw [← hsame.zact, hopen]
    · rw [hclosed] at hopen
      cases hopen

/-- From `s` the bytes `out` complete the stream of the bytes `d` to come, and leave it closed and done in `t`, with the
sums updated over `d` (R170, R176, R179). -/
structure CompletesStream (s : State) (d out : List Byte) (t : State) : Prop where
  pushed : out = openBlocks s.zblk.toNat d ++ u32be t.adler
  closed : t.zact = false
  isDone : t.zdone = true
  sums : t.adlerSums = d.foldl docAdlerByte s.adlerSums

theorem completesStream_of_sameStream {s s' t : State} {d out : List Byte} (hsame : s.SameStream s')
    (h : CompletesStream s' d out t) : CompletesStream s d out t :=
  ⟨by rw [← hsame.zblk, h.pushed], h.closed, h.isDone, by rw [← hsame.adlerSums, h.sums]⟩

/-- The last byte of the stream completes it. -/
theorem completesStream_of_last {s : State} (b : Byte) (hblk : s.zblk = 1#16) (hrem : s.zrem = 1#32) :
    CompletesStream s [b] (b :: u32be (s.adlerUpdate b).adler) (zDataEffect b s) where
  pushed := by
    rw [hblk, zDataEffect_ends_stream b hblk hrem]
    rfl
  closed := by rw [zDataEffect_ends_stream b hblk hrem, State.closeStream_zact]
  isDone := by rw [zDataEffect_ends_stream b hblk hrem, State.closeStream_zdone]
  sums := adlerSums_zDataEffect b s

/-- A byte before the last is pushed, with the header of the next block where it ends one. -/
theorem completesStream_cons {s t : State} {b : Byte} {d out rest : List Byte} (hs : s.Awaits (b :: d)) (hd : d ≠ [])
    (hout : (zDataEffect b s).outq = s.outq ++ out) (h : CompletesStream (zDataEffect b s) d rest t) :
    CompletesStream s (b :: d) (out ++ rest) t := by
  obtain ⟨hopen, hcount, -, hok, -⟩ := hs (List.cons_ne_nil b d)
  obtain ⟨hpos, -⟩ := hok hopen
  rw [List.length_cons] at hcount
  have hlen := List.length_pos_iff.2 hd
  have hrem : s.zrem ≠ 1#32 := ne_one_of_one_lt_toNat (by omega)
  refine ⟨?_, h.closed, h.isDone, by rw [h.sums, adlerSums_zDataEffect, List.foldl_cons]⟩
  by_cases hblk : s.zblk = 1#16
  · rw [zDataEffect_outq_ends_block b hblk hrem, List.append_cancel_left_eq] at hout
    have hnext : (s.zrem - 1#32).toNat = d.length := toNat_sub_one hcount
    have hzblk : (zDataEffect b s).zblk = blockLength (s.zrem - 1#32) := by
      rw [zDataEffect_ends_block b hblk hrem, State.blockHeader_zblk]
    have hone : s.zblk.toNat = 0 + 1 := by rw [hblk]; rfl
    have hzero : openBlocks 0 d = framedBlocks (splitBlocks d) := openBlocks_of_lt_length hlen
    rw [h.pushed, ← hout, hzblk, hone, openBlocks_succ_cons, hzero, framedBlocks_splitBlocks hnext]
    simp
  · rw [zDataEffect_outq_within_block b hblk, List.append_cancel_left_eq] at hout
    obtain ⟨k, hk⟩ := Nat.exists_eq_add_of_le' hpos
    have hzblk : (zDataEffect b s).zblk.toNat = k := by
      rw [zDataEffect_within_block b hblk]
      exact toNat_sub_one hk
    rw [h.pushed, ← hout, hzblk, hk, openBlocks_succ_cons]
    rfl

/-- Feeding the bytes that an open stream awaits completes it (R181). -/
theorem framerFeed_completes {s t : State} {d out : List Byte} (h : FramerFeed s d out t) (hd : d ≠ [])
    (hs : s.Awaits d) : CompletesStream s d out t := by
  induction h with
  | done => exact absurd rfl hd
  | @data s s' t b d out rest hrun hfeed ih =>
    obtain ⟨-, rfl, hout⟩ := runsPushing_iff.1 hrun
    by_cases hlast : d = []
    · subst hlast
      cases hfeed
      obtain ⟨hopen, hcount, -, hok, -⟩ := hs hd
      obtain ⟨hpos, -, hle, -⟩ := hok hopen
      rw [List.length_singleton] at hcount
      have hrem := eq_one_of_toNat hcount
      have hblk : s.zblk = 1#16 := eq_one_of_toNat (by omega)
      rw [effectOf, zDataEffect_outq_ends_stream b hblk hrem, List.append_cancel_left_eq] at hout
      rw [← hout, List.append_nil]
      exact completesStream_of_last b hblk hrem
    · exact completesStream_cons hs hlast hout (ih hlast (zDataEffect_awaits hs))
  | between hframer hreact hfeed ih =>
    obtain ⟨hopen, -⟩ := hs hd
    have hopen' := framerFeed_needs_open hfeed hd
    rcases react_beside_stream hframer hreact with hsame | ⟨hclosed, -⟩
    · exact completesStream_of_sameStream hsame (ih hd (awaits_of_sameStream hsame hs))
    · rw [hclosed] at hopen'
      cases hopen'

/-! The whole stream. -/

/-- Z.START alone makes the stream of no bytes (R175, R178). -/
theorem zStart_pushes_empty_stream {s t : State} {out : List Byte} (harg : s.arg = 0#32)
    (h : RunsPushing .zStart s out t) :
    out = zlibStream [] ∧ t.zact = false ∧ t.zdone = true ∧ t.adler = docAdler32 [] := by
  obtain ⟨hnone, rfl, hout⟩ := runsPushing_iff.1 h
  obtain ⟨hcheck, -⟩ := commandError_none_iff.1 hnone
  rw [effectOf, zStartEffect_outq_of_arg_zero harg, List.append_cancel_left_eq] at hout
  rw [effectOf, zStartEffect_of_arg_zero harg, ← hout]
  exact ⟨rfl, idle_of_stateCheck_zStart hcheck, rfl, adler_eq_docAdler32 rfl⟩

/-- Z.START and the data bytes push the stream's header, its blocks and its trailer (R170, R178, R181). -/
theorem framer_pushes_stream {s₀ s t : State} {d out₁ out₂ : List Byte} (hd : d ≠ []) (hlen : d.length ≤ 2 ^ 32 - 1)
    (harg : s₀.arg = BitVec.ofNat 32 d.length) (hstart : RunsPushing .zStart s₀ out₁ s)
    (hfeed : FramerFeed s d out₂ t) :
    out₁ ++ out₂ = zlibStream d ∧ t.zact = false ∧ t.zdone = true ∧ t.adler = docAdler32 d := by
  obtain ⟨-, rfl, hout⟩ := runsPushing_iff.1 hstart
  have hawaits : (zStartEffect s₀).Awaits d := zStartEffect_awaits hlen harg
  have hcount : s₀.arg.toNat = d.length := by
    rw [harg, BitVec.toNat_ofNat]
    omega
  have hne : s₀.arg ≠ 0#32 := by
    intro h
    rw [h] at hcount
    exact hd (List.length_eq_zero_iff.1 hcount.symm)
  obtain ⟨hpushed, hclosed, hdone, hsums⟩ := framerFeed_completes hfeed hd hawaits
  have hsums₀ : (zStartEffect s₀).adlerSums = (1, 0) := by simp [State.adlerSums]
  have hzblk : (zStartEffect s₀).zblk = blockLength s₀.arg := by
    rw [zStartEffect_of_arg_ne_zero hne]
    rfl
  rw [effectOf, hsums₀] at hsums
  have hadler : t.adler = docAdler32 d := adler_eq_docAdler32 hsums
  rw [effectOf, zStartEffect_outq_of_arg_ne_zero hne, List.append_cancel_left_eq] at hout
  refine ⟨?_, hclosed, hdone, hadler⟩
  rw [← hout, hpushed, effectOf, hzblk, hadler, zlibStream, framedBlocks_splitBlocks hcount, trailer_eq_u32be]
  simp [zlibHeader]

/-- Settles O26: Z.START alone makes the stream of no bytes, and any other is completed by its data bytes. -/
theorem framerEmitsTheZlibStream : Obligations.FramerEmitsTheZlibStream := by
  unfold Obligations.FramerEmitsTheZlibStream
  intro d out₁ out₂ s₀ s t hlen harg hstart hfeed
  have hstream : out₁ ++ out₂ = zlibStream d ∧ t.zact = false ∧ t.zdone = true ∧ t.adler = docAdler32 d := by
    by_cases hd : d = []
    · subst hd
      cases hfeed
      rw [List.append_nil]
      exact zStart_pushes_empty_stream harg hstart
    · exact framer_pushes_stream hd hlen harg hstart hfeed
  obtain ⟨hbytes, hstate⟩ := hstream
  exact ⟨hbytes, by rw [hbytes, zlibStream_length], hstate⟩

end Sys2Proof.Machine
end

section
/-! SUPPORT. A stream whose host drains OUTQ before each framer command (R42, R181, R184, R255): every command has room,
and such a run can always be made. Settles O27. -/

namespace Sys2Proof.Machine

/-- An empty queue has room for any command (R8, R184). -/
theorem commandError_of_drained {i : Instr} {s : State} (hcheck : stateCheck i s = none) (hq : s.outq = []) :
    commandError i s = none := by
  obtain ⟨hdepth, -⟩ := config_depth_bounds s.config
  have hpush := pushCount_le_eleven i s
  refine commandError_none_iff.2 ⟨hcheck, ?_⟩
  rw [hq, List.length_nil]
  omega

/-- Any command but SRESET, where it raises no error, appends what it pushes. -/
theorem runsPushing_of_no_error {i : Instr} {s : State} (hi : i ≠ .sreset) (hnone : commandError i s = none) :
    ∃ out, RunsPushing i s out (effectOf i s) := by
  obtain ⟨out, hout⟩ := effectOf_outq_append hi s
  exact ⟨out, runsPushing_iff.2 ⟨hnone, rfl, hout⟩⟩

/-- Each Z.DATA of a drained run finds its stream open and room for what it pushes, so the run is one of R181. -/
theorem drainedFeed_runs {s t : State} {d : List Byte} {errors : List (Option ErrorCode)}
    (h : DrainedFeed s d errors t) (hs : s.Awaits d) :
    (∀ e ∈ errors, e = none) ∧ ∃ out, FramerFeed s d out t := by
  induction h with
  | done s => exact ⟨nofun, [], .done s⟩
  | @data s s' t b d errors hq hexec _ ih =>
    obtain ⟨hopen, -⟩ := hs (List.cons_ne_nil b d)
    have hnone := commandError_of_drained (stateCheck_zData_of_open b hopen) hq
    rw [exec_of_no_error hnone] at hexec
    cases hexec
    obtain ⟨out, hrun⟩ := runsPushing_of_no_error (i := .zData b) nofun hnone
    obtain ⟨herrors, rest, hfeed⟩ := ih (zDataEffect_awaits hs)
    exact ⟨List.forall_mem_cons.2 ⟨hnone, herrors⟩, out ++ rest, .data hrun hfeed⟩
  | @between s s' t e b d errors hframer hreset hreact _ ih =>
    obtain ⟨hopen, -⟩ := hs (List.cons_ne_nil b d)
    rcases react_beside_stream hframer hreact with hsame | ⟨-, hends⟩
    · obtain ⟨herrors, out, hfeed⟩ := ih (awaits_of_sameStream hsame hs)
      exact ⟨herrors, out, .between hframer hreact hfeed⟩
    · rw [hends hopen] at hreset
      cases hreset

theorem exec_next (i : Instr) (s : State) : ∃ t, exec i s = .next t := by
  rcases hc : commandError i s with _ | c
  · exact ⟨_, exec_of_no_error hc⟩
  · exact ⟨_, exec_of_error hc⟩

/-- OUT reads empty the queue, so a drained run from every empty queue gives one from any queue (R42). -/
theorem drainedFeed_of_drained {b : Byte} {d : List Byte}
    (hdrained : ∀ s : State, s.outq = [] → ∃ t errors, DrainedFeed s (b :: d) errors t) (s : State) :
    ∃ t errors, DrainedFeed s (b :: d) errors t := by
  induction hq : s.outq generalizing s with
  | nil => exact hdrained s hq
  | cons c rest ih =>
    obtain ⟨t, errors, hrun⟩ := ih ((s.withQueue rest).returning (outWord c)) rfl
    exact ⟨t, errors, .between rfl rfl (react_readOf_out_cons hq) hrun⟩

/-- From any state a host can feed any bytes with OUTQ empty before each (R42). -/
theorem drainedFeed_exists (d : List Byte) (s : State) : ∃ t errors, DrainedFeed s d errors t := by
  induction d generalizing s with
  | nil => exact ⟨s, [], .done s⟩
  | cons b d ih =>
    refine drainedFeed_of_drained (fun s hq => ?_) s
    obtain ⟨s', hexec⟩ := exec_next (.zData b) s
    obtain ⟨t, errors, hrun⟩ := ih s'
    exact ⟨t, _, .data hq hexec hrun⟩

/-- Settles O27: a drained run raises no error, so the stream law speaks of it. -/
theorem drainedStreamAlwaysCompletes : Obligations.DrainedStreamAlwaysCompletes := by
  unfold Obligations.DrainedStreamAlwaysCompletes
  intro d s₀ hlen harg hidle hq
  have hnone := commandError_of_drained (stateCheck_zStart_of_idle hidle) hq
  refine ⟨fun s t errors hexec hdrained => ?_, ?_⟩
  · rw [exec_of_no_error hnone] at hexec
    cases hexec
    obtain ⟨out₁, hstart⟩ := runsPushing_of_no_error (i := .zStart) nofun hnone
    obtain ⟨herrors, out₂, hfeed⟩ := drainedFeed_runs hdrained (zStartEffect_awaits hlen harg)
    obtain ⟨-, -, hclosed, hdone, -⟩ := framerEmitsTheZlibStream d out₁ out₂ s₀ _ t hlen harg hstart hfeed
    exact ⟨hnone, herrors, hclosed, hdone, out₁, out₂, hstart, hfeed⟩
  · obtain ⟨t, errors, hrun⟩ := drainedFeed_exists d (effectOf .zStart s₀)
    exact ⟨_, t, errors, exec_of_no_error hnone, hrun⟩

end Sys2Proof.Machine
end

section
/-! SUPPORT. The system commands (45_system.md). Settles O2, O3, O4. -/

namespace Sys2Proof.Machine

theorem exec_nop {s : State} (h : s.QueueFits) : exec .nop s = .next s :=
  exec_of_pushes_nothing rfl rfl h

theorem exec_clrerr {s : State} (h : s.QueueFits) : exec .clrerr s = .next s.clearErrors :=
  exec_of_pushes_nothing rfl rfl h

theorem exec_sreset {s : State} (h : s.QueueFits) : exec .sreset s = .next s.resetBlock :=
  exec_of_pushes_nothing rfl rfl h

theorem react_reset (s : State) : react .reset s = .next s.resetBlock := rfl

/-- Settles O2: SRESET pushes nothing, and its effect is the reset input's, every element from R250's table. -/
theorem sresetIsTheResetInput : Obligations.SresetIsTheResetInput := by
  unfold Obligations.SresetIsTheResetInput
  refine ⟨hasOneWord_encode (i := .sreset) rfl, fun s => ?_, fun s h => ?_⟩
  · rw [react_reset, State.resetBlock_eq]
  · rw [exec_sreset h, State.resetBlock_eq]

/-- Settles O3: NOP takes no operand, has no state check, pushes nothing, and its effect is the identity. -/
theorem nopChangesNothing : Obligations.NopChangesNothing := by
  unfold Obligations.NopChangesNothing
  exact ⟨hasOneWord_encode (i := .nop) rfl, fun _ => exec_nop⟩

/-- Settles O4: CLRERR takes no operand, has no state check, pushes nothing, and its effect writes the error record
alone. -/
theorem clrerrClearsTheErrorState : Obligations.ClrerrClearsTheErrorState := by
  unfold Obligations.ClrerrClearsTheErrorState
  exact ⟨hasOneWord_encode (i := .clrerr) rfl, fun _ => exec_clrerr⟩

end Sys2Proof.Machine
end

section
/-! SUPPORT. Every event at the block's boundary, by what it asks of the block, and that each has an outcome (R61 to R66,
R220, R250). Settles O43. -/

namespace Sys2Proof.Machine

/-! What an event asks of the block. -/

theorem exists_offset_of_inWindow {c : Config} {addr : Nat} (h : inWindow c addr = true) :
    ∃ off, off < 64 ∧ addr = c.base + off := by
  obtain ⟨hlo, hhi⟩ := inWindow_iff.1 h
  exact ⟨addr - c.base, by omega, by omega⟩

/-- A write in the window is to CMD, is to ARG, or only records BUS (R61 to R64). -/
theorem write_cases (c : Config) {off : Nat} (hoff : off < 64) (size : Nat) (v : Word) :
    HostEvent.write (c.base + off) size v = cmdWrite c v ∨
    HostEvent.write (c.base + off) size v = writeReg c .arg v ∨
    ∀ s : State, s.config = c → react (.write (c.base + off) size v) s = .next (s.recordError .bus) := by
  cases hwf : accessWellFormed off size with
  | false =>
    refine .inr (.inr ?_)
    rintro s rfl
    rw [react_write_base hoff, busWrite_of_not_wellFormed hwf]
  | true =>
    obtain ⟨r, -, rfl, rfl⟩ := regAt_of_wellFormed hwf
    by_cases hro : 0x08 ≤ r.offset
    · refine .inr (.inr ?_)
      rintro s rfl
      rw [react_write_base hoff, busWrite_readOnly hro]
    · cases r with
      | cmd => exact .inl rfl
      | arg => exact .inr (.inl rfl)
      | _ => exact absurd (by decide) hro

/-- A read in the window is of a register, or only records BUS and returns 0 (R61 to R63). -/
theorem read_cases (c : Config) {off : Nat} (hoff : off < 64) (size : Nat) :
    (∃ r, HostEvent.read (c.base + off) size = readOf c r) ∨
    ∀ s : State, s.config = c →
      react (.read (c.base + off) size) s = .next ((s.recordError .bus).returning 0x00000000#32) := by
  cases hwf : accessWellFormed off size with
  | false =>
    refine .inr ?_
    rintro s rfl
    rw [react_read_base hoff, busRead_of_not_wellFormed hwf]
  | true =>
    obtain ⟨r, -, rfl, rfl⟩ := regAt_of_wellFormed hwf
    exact .inl ⟨r, rfl⟩

/-- Every event: a write to CMD or to ARG, a read of a register, the reset input, an access that is not the block's, or a
write or a read that is refused. -/
theorem event_cases (c : Config) (e : HostEvent) :
    (∃ w, e = cmdWrite c w) ∨ (∃ v, e = writeReg c .arg v) ∨ (∃ r, e = readOf c r) ∨ e = .reset ∨
    (∀ s : State, s.config = c → react e s = .next s) ∨
    (∀ s : State, s.config = c → react e s = .next (s.recordError .bus)) ∨
    (∀ s : State, s.config = c → react e s = .next ((s.recordError .bus).returning 0x00000000#32)) := by
  cases e with
  | write addr size v =>
    cases hwin : inWindow c addr with
    | false => exact .inr (.inr (.inr (.inr (.inl fun s hs => react_write_outside (hs ▸ hwin) size v))))
    | true =>
      obtain ⟨off, hoff, rfl⟩ := exists_offset_of_inWindow hwin
      rcases write_cases c hoff size v with hcmd | harg | hbus
      · exact .inl ⟨v, hcmd⟩
      · exact .inr (.inl ⟨v, harg⟩)
      · exact .inr (.inr (.inr (.inr (.inr (.inl hbus)))))
  | read addr size =>
    cases hwin : inWindow c addr with
    | false => exact .inr (.inr (.inr (.inr (.inl fun s hs => react_read_outside (hs ▸ hwin) size))))
    | true =>
      obtain ⟨off, hoff, rfl⟩ := exists_offset_of_inWindow hwin
      rcases read_cases c hoff size with hreg | hbus
      · exact .inr (.inr (.inl hreg))
      · exact .inr (.inr (.inr (.inr (.inr (.inr hbus)))))
  | reset => exact .inr (.inr (.inr (.inl rfl)))

/-! Nothing stops the block (R220). -/

theorem execute_next (w : Word) (s : State) : ∃ t, execute w s = .next t := by
  cases hd : decode w with
  | error err => exact ⟨_, execute_of_decode_error hd s⟩
  | ok i =>
    rw [execute_of_decode_ok hd]
    exact exec_next i s

theorem react_next (e : HostEvent) (s : State) : ∃ t, react e s = .next t := by
  rcases event_cases s.config e with ⟨w, rfl⟩ | ⟨v, rfl⟩ | ⟨r, rfl⟩ | rfl | houtside | hwrite | hread
  · rw [react_cmdWrite]
    exact execute_next w s
  · exact ⟨_, react_writeReg_arg v s⟩
  · exact ⟨_, react_readOf r s⟩
  · exact ⟨_, react_reset s⟩
  · exact ⟨_, houtside s rfl⟩
  · exact ⟨_, hwrite s rfl⟩
  · exact ⟨_, hread s rfl⟩

/-- Settles O43: an idle step answers the state itself, and any other the reaction to one event. -/
theorem nothingStopsTheBlock : Obligations.NothingStopsTheBlock := by
  unfold Obligations.NothingStopsTheBlock
  intro s
  cases hp : s.pending with
  | nil => exact ⟨s, step_of_pending_nil hp⟩
  | cons e rest =>
    rw [step_of_pending_cons hp]
    exact react_next e (s.taking rest)

end Sys2Proof.Machine
end

section
/-! SUPPORT. Recording an error, and the order of the checks that raise one (R221 to R223, R226). Settles O39 and O40. -/

namespace Sys2Proof.Machine

/-! Recording an error (R222). -/

theorem recordError_of_first {s : State} (h : s.err = false) (c : ErrorCode) :
    s.recordError c = { s with err := true, ecode := c.code } :=
  if_pos h

theorem recordError_of_further {s : State} (h : s.err = true) (c : ErrorCode) :
    s.recordError c = { s with emult := true } :=
  if_neg (by simp [h])

/-- Settles O39: the two branches of the recording, and the codes of R221. -/
theorem errorRecordingKeepsTheFirstCode : Obligations.ErrorRecordingKeepsTheFirstCode := by
  unfold Obligations.ErrorRecordingKeepsTheFirstCode
  exact ⟨fun _ c h => recordError_of_first h c, fun _ c h => recordError_of_further h c, rfl, rfl, rfl, rfl, rfl, rfl⟩

/-! The order of the checks (R223). -/

/-- Which commands pass their state check (R130, R131, R178, R179). -/
theorem stateCheck_none_iff {i : Instr} {s : State} :
    stateCheck i s = none ↔
      ((i = .zStart ∨ i = .adlInit ∨ ∃ b, i = .adlByte b) → s.zact = false) ∧ ((∃ b, i = .zData b) → s.zact = true) := by
  cases i <;> simp [stateCheck]

/-- Which commands their state check turns away with ZSEQ (R178, R179). -/
theorem stateCheck_zseq_iff {i : Instr} {s : State} :
    stateCheck i s = some .zseq ↔ (i = .zStart ∧ s.zact = true) ∨ ((∃ b, i = .zData b) ∧ s.zact = false) := by
  cases i <;> simp [stateCheck]

/-- Which commands their state check turns away with ADL_BUSY (R130, R131). -/
theorem stateCheck_adlBusy_iff {i : Instr} {s : State} :
    stateCheck i s = some .adlBusy ↔ (i = .adlInit ∨ ∃ b, i = .adlByte b) ∧ s.zact = true := by
  cases i <;> simp [stateCheck]

/-- Settles O40, check by check in the order of R223. -/
theorem firstFailedCheckIsTheErrorRaised : Obligations.FirstFailedCheckIsTheErrorRaised := by
  unfold Obligations.FirstFailedCheckIsTheErrorRaised
  intro s off size v hoff
  obtain ⟨hillegal, hrsvd, -, -⟩ := decodeIsTotalInTheOrderOfR93 v
  have hcmd : react (.write (s.config.base + 0x00) 4 v) s = execute v s := react_cmdWrite s v
  rw [hcmd]
  refine ⟨fun hbad => ?_, fun hbad => ?_, fun hopc => ?_, fun hopc hbits => ?_, fun i hd => ?_⟩
  · rcases write_cases s.config hoff size v with heq | heq | hbus
    · injection heq with haddr hsize
      have hzero : off = 0x00 := Nat.add_left_cancel haddr
      omega
    · injection heq with haddr hsize
      have hfour : off = 0x04 := Nat.add_left_cancel haddr
      omega
    · exact hbus s rfl
  · have hwf : accessWellFormed off size = false := by
      rwa [Bool.eq_false_iff, Ne, accessWellFormed_iff]
    rw [react_read_base hoff, busRead_of_not_wellFormed hwf, State.returning]
  · exact execute_of_decode_error (hillegal.2 hopc) s
  · exact execute_of_decode_error (hrsvd.2 ⟨hopc, hbits⟩) s
  · rw [execute_of_decode_ok hd]
    refine ⟨fun hseq => exec_of_stateCheck (stateCheck_zseq_iff.2 hseq),
      fun hi hopen => exec_of_stateCheck (stateCheck_adlBusy_iff.2 ⟨hi, hopen⟩), fun hidle hopen => ?_⟩
    have hcheck : stateCheck i s = none := stateCheck_none_iff.2 ⟨hidle, hopen⟩
    exact ⟨exec_of_no_room hcheck, fun hroom => ⟨rfl, commandError_none_iff.2 ⟨hcheck, hroom⟩⟩⟩

end Sys2Proof.Machine
end

section
/-! SUPPORT. What keeps the error record: everything but CLRERR, SRESET and the reset input (R222). Settles O41. -/

namespace Sys2Proof.Machine

/-- An error recorded in `s` is still recorded in `t`, with its code, and so is a further one. -/
def State.KeepsErrors (s t : State) : Prop :=
  t.err = true ∧ t.ecode = s.ecode ∧ (s.emult = true → t.emult = true)

theorem keepsErrors_of_eq {s t : State} (h : s.err = true) (herr : t.err = s.err) (hmult : t.emult = s.emult)
    (hcode : t.ecode = s.ecode) : s.KeepsErrors t :=
  ⟨herr.trans h, hcode, hmult.trans⟩

theorem recordError_keepsErrors {s : State} (h : s.err = true) (c : ErrorCode) : s.KeepsErrors (s.recordError c) := by
  simp [State.KeepsErrors, h]

theorem exec_keepsErrors {i : Instr} {s t : State} (h : s.err = true) (hexec : exec i s = .next t) :
    s.KeepsErrors t ∨ i = .clrerr ∨ i = .sreset := by
  rcases exec_cases hexec with ⟨-, rfl⟩ | ⟨c, -, rfl⟩
  · by_cases hi : i = .clrerr ∨ i = .sreset
    · exact .inr hi
    · have hsame := mt (effectOf_writes_errors i s) hi
      simp only [not_or, not_not] at hsame
      obtain ⟨herr, hmult, hcode⟩ := hsame
      exact .inl (keepsErrors_of_eq h herr hmult hcode)
  · exact .inl (recordError_keepsErrors h c)

/-- The encoding is the only word of a command, so CLRERR and SRESET have one word each. -/
theorem execute_keepsErrors {w : Word} {s t : State} (h : s.err = true) (hexec : execute w s = .next t) :
    s.KeepsErrors t ∨ w = encode .clrerr ∨ w = encode .sreset := by
  cases hd : decode w with
  | error err =>
    rw [execute_of_decode_error hd] at hexec
    cases hexec
    exact .inl (recordError_keepsErrors h _)
  | ok i =>
    rw [execute_of_decode_ok hd] at hexec
    rw [← encodeInvertsDecode w i hd]
    exact (exec_keepsErrors h hexec).imp_right (Or.imp (congrArg encode) (congrArg encode))

theorem readReg_keepsErrors {s : State} (h : s.err = true) (r : Reg) : s.KeepsErrors (readReg r s).2 := by
  by_cases hr : r = .out
  · subst hr
    cases hq : s.outq with
    | nil =>
      rw [readReg_out_nil hq]
      exact keepsErrors_of_eq h rfl rfl rfl
    | cons b rest =>
      rw [readReg_out_cons hq]
      exact keepsErrors_of_eq h rfl rfl rfl
  · rw [readReg_keeps_state hr]
    exact keepsErrors_of_eq h rfl rfl rfl

theorem react_keepsErrors {e : HostEvent} {s t : State} (h : s.err = true) (hreact : react e s = .next t) :
    s.KeepsErrors t ∨ e = .reset ∨ e = cmdWrite s.config (encode .clrerr) ∨ e = cmdWrite s.config (encode .sreset) := by
  rcases event_cases s.config e with ⟨w, rfl⟩ | ⟨v, rfl⟩ | ⟨r, rfl⟩ | rfl | houtside | hwrite | hread
  · rw [react_cmdWrite] at hreact
    exact (execute_keepsErrors h hreact).imp_right
      fun hw => .inr (hw.imp (congrArg (cmdWrite s.config)) (congrArg (cmdWrite s.config)))
  · rw [react_writeReg_arg] at hreact
    cases hreact
    exact .inl (keepsErrors_of_eq h rfl rfl rfl)
  · rw [react_readOf] at hreact
    cases hreact
    exact .inl (readReg_keepsErrors h r)
  · exact .inr (.inl rfl)
  · rw [houtside s rfl] at hreact
    cases hreact
    exact .inl (keepsErrors_of_eq h rfl rfl rfl)
  · rw [hwrite s rfl] at hreact
    cases hreact
    exact .inl (recordError_keepsErrors h .bus)
  · rw [hread s rfl] at hreact
    cases hreact
    exact .inl (recordError_keepsErrors h .bus)

/-- Settles O41: an idle step keeps the record, and any other is the reaction to one event. -/
theorem errorRecordIsSticky : Obligations.ErrorRecordIsSticky := by
  unfold Obligations.ErrorRecordIsSticky
  intro s t hstep h
  cases hp : s.pending with
  | nil =>
    rw [step_of_pending_nil hp] at hstep
    cases hstep
    exact .inl (keepsErrors_of_eq h rfl rfl rfl)
  | cons e rest =>
    rw [step_of_pending_cons hp] at hstep
    refine (react_keepsErrors (s := s.taking rest) h hstep).imp_right fun he => ⟨rest, ?_⟩
    rcases he with rfl | rfl | rfl
    · exact .inl rfl
    · exact .inr (.inl rfl)
    · exact .inr (.inr rfl)

end Sys2Proof.Machine
end

section
/-! SUPPORT. The error state blocks nothing (R228). Two states differ in it alone when clearing it makes them the same,
and such states react alike. Settles O42. -/

namespace Sys2Proof.Machine

theorem eq_of_clearErrors_eq {s t : State} (h : t.clearErrors = s.clearErrors) :
    { t with err := s.err, emult := s.emult, ecode := s.ecode } = s :=
  congrArg (fun u : State => { u with err := s.err, emult := s.emult, ecode := s.ecode }) h

theorem config_of_clearErrors_eq {s t : State} (h : t.clearErrors = s.clearErrors) : t.config = s.config := by
  simpa using congrArg State.config h

@[simp] theorem recordError_clearErrors (c : ErrorCode) (s : State) :
    (s.recordError c).clearErrors = s.clearErrors := by
  unfold State.recordError
  split <;> rfl

/-- No check reads the error state (R223). -/
theorem commandError_clearErrors (i : Instr) (s : State) : commandError i s.clearErrors = commandError i s := rfl

/-- No effect reads the error state: the framer's effects branch on ARG and on their counts alone (R178, R179). -/
theorem effectOf_clearErrors (i : Instr) (s : State) : effectOf i s.clearErrors = (effectOf i s).clearErrors := by
  cases i with
  | zStart =>
    simp only [effectOf, zStartEffect, apply_ite State.clearErrors]
    rfl
  | zData b =>
    simp only [effectOf, zDataEffect, apply_ite State.clearErrors]
    rfl
  | _ => rfl

theorem exec_of_clearErrors_eq {i : Instr} {s t u : State} (h : t.clearErrors = s.clearErrors)
    (hexec : exec i s = .next u) : ∃ v, exec i t = .next v ∧ v.clearErrors = u.clearErrors := by
  have hsame : commandError i t = commandError i s := by
    rw [← commandError_clearErrors, h, commandError_clearErrors]
  rcases exec_cases hexec with ⟨hc, rfl⟩ | ⟨c, hc, rfl⟩
  · refine ⟨_, exec_of_no_error (hsame.trans hc), ?_⟩
    rw [← effectOf_clearErrors, h, effectOf_clearErrors]
  · refine ⟨_, exec_of_error (hsame.trans hc), ?_⟩
    rw [recordError_clearErrors, recordError_clearErrors, h]

theorem execute_of_clearErrors_eq {w : Word} {s t u : State} (h : t.clearErrors = s.clearErrors)
    (hexec : execute w s = .next u) : ∃ v, execute w t = .next v ∧ v.clearErrors = u.clearErrors := by
  cases hd : decode w with
  | error err =>
    rw [execute_of_decode_error hd] at hexec
    cases hexec
    refine ⟨_, execute_of_decode_error hd t, ?_⟩
    rw [recordError_clearErrors, recordError_clearErrors, h]
  | ok i =>
    rw [execute_of_decode_ok hd] at hexec ⊢
    exact exec_of_clearErrors_eq h hexec

/-- Only STATUS shows the error state (R41). -/
theorem readReg_clearErrors {r : Reg} (hr : r ≠ .status) (s : State) :
    readReg r s.clearErrors = ((readReg r s).1, (readReg r s).2.clearErrors) := by
  cases r with
  | status => exact absurd rfl hr
  | out =>
    cases hq : s.outq with
    | nil =>
      rw [readReg_out_nil hq, readReg_out_nil (s := s.clearErrors) hq]
    | cons b rest =>
      rw [readReg_out_cons hq, readReg_out_cons (s := s.clearErrors) hq]
      rfl
  | _ => rfl

theorem readReg_of_clearErrors_eq {r : Reg} (hr : r ≠ .status) {s t : State} (h : t.clearErrors = s.clearErrors) :
    (readReg r t).1 = (readReg r s).1 ∧ (readReg r t).2.clearErrors = (readReg r s).2.clearErrors := by
  have hread : readReg r t.clearErrors = readReg r s.clearErrors := congrArg (readReg r) h
  rwa [readReg_clearErrors hr, readReg_clearErrors hr, Prod.mk.injEq] at hread

theorem react_of_clearErrors_eq {e : HostEvent} {s t u : State} (h : t.clearErrors = s.clearErrors)
    (hstatus : e ≠ readOf s.config .status) (hreact : react e s = .next u) :
    ∃ v, react e t = .next v ∧ v.clearErrors = u.clearErrors := by
  have hconfig := config_of_clearErrors_eq h
  have hrecord (c : ErrorCode) : (t.recordError c).clearErrors = (s.recordError c).clearErrors := by
    rw [recordError_clearErrors, recordError_clearErrors, h]
  rcases event_cases s.config e with ⟨w, rfl⟩ | ⟨v, rfl⟩ | ⟨r, rfl⟩ | rfl | houtside | hwrite | hread
  · rw [react_cmdWrite] at hreact
    rw [← hconfig, react_cmdWrite]
    exact execute_of_clearErrors_eq h hreact
  · rw [react_writeReg_arg] at hreact
    rw [← hconfig, react_writeReg_arg]
    cases hreact
    exact ⟨_, rfl, congrArg (fun x : State => { x with arg := v }) h⟩
  · have hr : r ≠ .status := fun heq => hstatus (heq ▸ rfl)
    obtain ⟨hvalue, hstate⟩ := readReg_of_clearErrors_eq hr h
    rw [react_readOf] at hreact
    rw [← hconfig, react_readOf, hvalue]
    cases hreact
    exact ⟨_, rfl, congrArg (State.returning · (readReg r s).1) hstate⟩
  · rw [react_reset] at hreact
    cases hreact
    exact ⟨_, react_reset t, congrArg State.resetBlock h⟩
  · rw [houtside s rfl] at hreact
    cases hreact
    exact ⟨t, houtside t hconfig, h⟩
  · rw [hwrite s rfl] at hreact
    cases hreact
    exact ⟨_, hwrite t hconfig, hrecord .bus⟩
  · rw [hread s rfl] at hreact
    cases hreact
    exact ⟨_, hread t hconfig, congrArg (State.returning · 0x00000000#32) (hrecord .bus)⟩

/-- Settles O42: the two states are the same once their error state is cleared, and so are the states they lead to. -/
theorem errorStateBlocksNothing : Obligations.ErrorStateBlocksNothing := by
  unfold Obligations.ErrorStateBlocksNothing
  refine ⟨fun s u e err emult ecode he hreact => ?_, fun i s c => exec_of_error⟩
  have hclear : State.clearErrors { s with err := err, emult := emult, ecode := ecode } = s.clearErrors := rfl
  obtain ⟨t, ht, hsame⟩ := react_of_clearErrors_eq hclear he hreact
  exact ⟨t, ht, eq_of_clearErrors_eq hsame⟩

end Sys2Proof.Machine
end

section
/-! SUPPORT. The state after reset (R250): what its register views read, and that it meets every invariant. Settles O1
and O50. -/

namespace Sys2Proof.Machine

@[simp] theorem State.resetWith_adler (c : Config) : (State.resetWith c).adler = 0x00000001#32 := by
  simp [State.adler, adlerWord]

@[simp] theorem State.resetWith_zstat (c : Config) : (State.resetWith c).zstat = 0x00000000#32 := by
  simp [State.zstat, flagBit]

/-- Only DEPTH is set, and it is the configuration's (R41). -/
@[simp] theorem State.resetWith_status (c : Config) :
    (State.resetWith c).status = BitVec.ofNat 32 c.outqDepth <<< 16 := by
  simp [State.status, flagBit]

/-- Settles O1: the elements are those `resetWith` names, the views follow, and OUT reads 0 as the queue is empty. -/
theorem resetLeavesTheValuesOfR250 : Obligations.ResetLeavesTheValuesOfR250 := by
  unfold Obligations.ResetLeavesTheValuesOfR250
  refine ⟨rfl, fun c => ⟨rfl, rfl, rfl, rfl, rfl, State.resetWith_adler c, rfl, rfl, rfl, rfl, rfl, rfl, rfl, rfl, rfl,
    rfl, rfl, State.resetWith_zstat c, State.resetWith_status c, fun r => ?_⟩⟩
  cases r with
  | adler => exact State.resetWith_adler c
  | zstat => exact State.resetWith_zstat c
  | status => exact State.resetWith_status c
  | out => rw [readReg_out_nil (State.resetWith_outq c)]
  | _ => rfl

/-- A reset state is what the reset input makes of itself. -/
theorem resetWith_inv (c : Config) : (State.resetWith c).Inv :=
  resetBlock_inv (State.resetWith c)

/-- Settles O50. -/
theorem invariantsHoldAfterReset : Obligations.InvariantsHoldAfterReset :=
  ⟨resetWith_inv Config.vectors, resetWith_inv⟩

end Sys2Proof.Machine
end

section
/-! SUPPORT. Draining OUTQ to 11 free bytes leaves room for every command (R255). Settles O32. -/

namespace Sys2Proof.Machine

/-- Settles O32: OUT_OVF needs more pushes than there is room for, and no command pushes more than 11 bytes. -/
theorem drainingToElevenFreeSuffices : Obligations.DrainingToElevenFreeSuffices := by
  unfold Obligations.DrainingToElevenFreeSuffices
  intro i s hroom hovf
  obtain ⟨-, hfull⟩ := commandError_outOvf_iff.1 hovf
  have hpush := pushCount_le_eleven i s
  omega

end Sys2Proof.Machine
end
